-- ==== Sys2Proof/Word.lean ====
section
/-! DEFINITION. The part's plainest quantities: bytes, link words, the index ranges of the Conventions chapter (00_scope), and the
byte forms of numbers (chapter 11: a multi-byte field has its most significant byte first; a signed field is two's complement). -/

namespace Sys2Proof

/-- One byte of a frame, a record or the configuration memory. -/
abbrev Byte := BitVec 8

/-- One 16-bit word of a lane (R130). -/
abbrev LinkWord := BitVec 16

/-- B0 to B23. -/
abbrev BayId := Fin 24
/-- G0 to G5. -/
abbrev GroupId := Fin 6
/-- Z0 to Z2. -/
abbrev ZoneId := Fin 3
/-- F0 to F5. -/
abbrev FanId := Fin 6
/-- S0 to S3. -/
abbrev SensorId := Fin 4
/-- C0 to C7. -/
abbrev ClassId := Fin 8
/-- K0 to K5. -/
abbrev CurveId := Fin 6
/-- P0 to P15. -/
abbrev PatternId := Fin 16
/-- Indications 0 to 31. -/
abbrev IndicationId := Fin 32
/-- Stream slots 0 to 127. -/
abbrev SlotId := Fin 128

/-- The 128 slot bytes of a sweep or a return (R131, R196). -/
abbrev Slots := Vector Byte 128

/-- The group of a bay: its number divided by 4, the remainder discarded (R35). -/
def groupOf (b : BayId) : GroupId := ⟨b.val / 4, by omega⟩

end Sys2Proof
end

