-- ==== Sys2Proof/Syntax.lean ====
section
/-! DEFINITION. The commands of the block: one constructor for each row of spec/opcode_table.json, in the table's order, with the
row's operands. The RPX2460 is no processor: a command is something the outside does to the part (a frame, a word, a pin event, a memory
acknowledge), a request handed to the MRU, or an event of the part's own time bases. -/

namespace Sys2Proof

/-- The two kinds of training word (R130). -/
inductive TrainKind where
  | a
  | b
  deriving DecidableEq, Repr

/-- One command of the table. Bytes that come from the link are bytes; what names a bay, a zone, a fan or a sensor of the part itself is an
index of that range. -/
inductive Instr where
  /-- POWER_ON_RESET (R188): the supply monitor holds the part in power-on reset. -/
  | powerOnReset
  /-- CONTROLLER_RESET (R189): RSTn is driven low after the start of the part. -/
  | controllerReset
  /-- RSTN_RELEASE (R188, R189): RSTn is high again, with the supply good. -/
  | rstnRelease
  /-- LOAD_COMPLETION (R187): the running load completes; the operand says whether a memory failure (R182) came at any point of the reading. -/
  | loadCompletion (memoryFailure : Bool)
  /-- QUALIFIED_INSERTION (R2): two consecutive PRES samples of the bay read asserted. -/
  | qualifiedInsertion (b : BayId)
  /-- SETTLING_BOUNCE (R2): one raw PRES sample of the bay reads deasserted. -/
  | settlingBounce (b : BayId)
  /-- INSERTION_DEBOUNCE_EXPIRY (R2, R10). -/
  | insertionDebounceExpiry (b : BayId)
  /-- QUALIFIED_REMOVAL (R3): the removal count of the bay reaches the removal debounce. -/
  | qualifiedRemoval (b : BayId)
  /-- QUALIFIED_FLT_ASSERTION (R1, R15, R16). -/
  | qualifiedFltAssertion (b : BayId)
  /-- QUALIFIED_PG_DEASSERTION (R1, R14, R16). -/
  | qualifiedPgDeassertion (b : BayId)
  /-- QUALIFIED_PG_ASSERTION (R1, R14). -/
  | qualifiedPgAssertion (b : BayId)
  /-- PG_DEADLINE (R14). -/
  | pgDeadline (b : BayId)
  /-- RAMP_DEADLINE (R14). -/
  | rampDeadline (b : BayId)
  /-- DRAIN_EXPIRY (R17). -/
  | drainExpiry (b : BayId)
  /-- BACKOFF_EXPIRY (R21). -/
  | backoffExpiry (b : BayId)
  /-- STAGGER_EXPIRY (R41). -/
  | staggerExpiry
  /-- SHED_DELAY_REACHED (R50). -/
  | shedDelayReached (z : ZoneId)
  /-- SHED_INTERVAL_REACHED (R50). -/
  | shedIntervalReached (z : ZoneId)
  /-- CONTROL_PERIOD_END (R78). -/
  | controlPeriodEnd
  /-- FAN_GRACE_EXPIRY (R90). -/
  | fanGraceExpiry (f : FanId)
  /-- TACH_EDGE (R88): a falling edge on FANTACHn. -/
  | tachEdge (f : FanId)
  /-- SENSOR_CONVERSION (R55 to R57): a conversion completes with this reading, in half-degrees. -/
  | sensorConversion (k : SensorId) (reading : Int)
  /-- DRIVE_AGE_EXPIRY (R64). -/
  | driveAgeExpiry (b : BayId)
  /-- ACTIVITY_STRETCH_EXPIRY (R111). -/
  | activityStretchExpiry (b : BayId)
  /-- LIGHT_TICK (R118). -/
  | lightTick
  /-- TRAINING_WORD (R135 to R139, R143): a training word arrives on the upstream input. -/
  | trainingWord (kind : TrainKind) (hop : BitVec 4)
  /-- TRAINING_INTERRUPTED (R135): a start word or data word arrives in TRAINING. -/
  | trainingInterrupted
  /-- UPSTREAM_BAD_FRAME (R132, R133, R141). -/
  | upstreamBadFrame
  /-- UPSTREAM_SWEEP (R157): a valid SWEEP arrives on the upstream input. -/
  | upstreamSweep (number : Byte) (slots : Slots)
  /-- UPSTREAM_REQUEST (R148): a valid REQUEST arrives on the upstream input. -/
  | upstreamRequest (target tag kind : Byte) (payload : List Byte)
  /-- UPSTREAM_FILL (R141, R148): a valid FILL, RETURN or REPLY arrives on the upstream input. -/
  | upstreamFill
  /-- SILENCE_TIMEOUT (R137). -/
  | silenceTimeout
  /-- AUTONOMY_TIMEOUT (R137, R138). -/
  | autonomyTimeout
  /-- LOST_LATCH_SET (R139). -/
  | lostLatchSet
  /-- PROBE_ANSWER (R145): a training word arrives on the return input. -/
  | probeAnswer (kind : TrainKind) (hop : BitVec 4)
  /-- PROBE_TIMEOUT (R145). -/
  | probeTimeout
  /-- PROBE_RETRY (R145). -/
  | probeRetry
  /-- RETURN_WATCH_TIMEOUT (R145). -/
  | returnWatchTimeout
  /-- DOWNSTREAM_RETURN (R161): a valid RETURN arrives on the return input. -/
  | downstreamReturn (number : Byte) (attention : Bool) (originator : Byte) (slots : Slots)
  /-- DOWNSTREAM_REPLY (R147, R150): a valid REPLY arrives on the return input. -/
  | downstreamReply (source tag status : Byte) (payload : List Byte)
  /-- DOWNSTREAM_OTHER_FRAME (R147): a valid FILL, SWEEP or REQUEST arrives on the return input. -/
  | downstreamOtherFrame
  /-- DOWNSTREAM_BAD_FRAME (R147). -/
  | downstreamBadFrame
  /-- OUTSTANDING_DEADLINE (R162). -/
  | outstandingDeadline
  /-- RETURN_LANE_FRAME_END (R149). -/
  | returnLaneFrameEnd
  /-- DOWNSTREAM_LANE_FRAME_END (R146). -/
  | downstreamLaneFrameEnd
  /-- TABLE_READ (R169). -/
  | tableRead (tag table first count : Byte)
  /-- TABLE_WRITE (R170). -/
  | tableWrite (tag table first count : Byte) (entries : List Byte)
  /-- POWER_ON (R23). -/
  | powerOn (tag bay : Byte)
  /-- POWER_OFF (R23). -/
  | powerOff (tag bay : Byte)
  /-- CLEAR_LOCKOUT (R22, R23). -/
  | clearLockout (tag bay : Byte)
  /-- IDENTIFY_ON (R24). -/
  | identifyOn (tag bay : Byte)
  /-- IDENTIFY_OFF (R24). -/
  | identifyOff (tag bay : Byte)
  /-- MARK_SET (R24). -/
  | markSet (tag bay mark : Byte)
  /-- MARK_CLEAR (R24). -/
  | markClear (tag bay mark : Byte)
  /-- TEMPERATURE_REPORT (R61, R172), to the part's own position or to ALL, with its slot and value pairs. -/
  | temperatureReport (toAll : Bool) (tag : Byte) (pairs : List (Byte × Byte))
  /-- STATUS_READ_SUMMARY (R175). -/
  | statusReadSummary (tag : Byte)
  /-- STATUS_READ_BAYS (R174). -/
  | statusReadBays (tag first count : Byte)
  /-- STATUS_READ_SOURCES (R69). -/
  | statusReadSources (tag : Byte)
  /-- STATUS_READ_FANS (R93). -/
  | statusReadFans (tag : Byte)
  /-- STATUS_READ_ZONES (R93). -/
  | statusReadZones (tag : Byte)
  /-- STATUS_READ_LINES (R127). -/
  | statusReadLines (tag : Byte)
  /-- ATTENTION_CLEAR (R177), with its two-byte kind set. -/
  | attentionClear (tag : Byte) (kinds : BitVec 16)
  /-- LINE_SET_MANUAL (R125, R126): a LINE SET of mode MANUAL. -/
  | lineSetManual (tag : Byte) (baySet : BitVec 32) (lines level : Byte)
  /-- LINE_SET_ENGINE (R125, R126): a LINE SET of mode ENGINE. -/
  | lineSetEngine (tag : Byte) (baySet : BitVec 32) (lines level : Byte)
  /-- RESTART_IMMEDIATE (R178). -/
  | restartImmediate (tag : Byte)
  /-- RESTART_QUIESCED (R178). -/
  | restartQuiesced (tag : Byte)
  /-- QUIESCE_LIMIT (R178). -/
  | quiesceLimit
  /-- CONFIG_SAVE (R180). -/
  | configSave (tag : Byte)
  /-- UNKNOWN_KIND (R167): a request of an undefined kind. -/
  | unknownKind (tag kind : Byte)
  /-- SAVE_WRITE_ACKNOWLEDGED (R192). -/
  | saveWriteAcknowledged
  /-- SAVE_FAILED (R193). -/
  | saveFailed
  /-- RSTN_PULSE_DURING_POWER_ON_LOAD (R188). -/
  | rstnPulseDuringPowerOnLoad
  /-- QUALIFIED_FLT_DEASSERTION (R1). -/
  | qualifiedFltDeassertion (b : BayId)
  /-- PWM_CYCLE_END (R86). -/
  | pwmCycleEnd (f : FanId)
  deriving DecidableEq, Repr

end Sys2Proof
end

