-- ==== Sys2Proof/Decode.lean ====
section
/-! DEFINITION. The command that a word of the opcode table's bits spells. No row of spec/opcode_table.json gives any bits (its "fields" are empty
lists and it has no "fixed" bits): no word spells a command. -/

namespace Sys2Proof

/-- The table numbers no bits, so no word spells a command. -/
def decodeTableWord (_nbits _w : Nat) : Option Instr := none

end Sys2Proof
end

