-- ==== Sys2Proof/Machine/Memory.lean ====
section
/-! DEFINITION. The configuration memory (R182): the serial memory at CMSCL and CMSDA, of which the part uses offsets 0 to 2047. One canonical
form: addresses strictly rising, and no entry equal to what an unlisted address reads as. -/

namespace Sys2Proof.Machine

/-- The memory's contents: the offsets whose byte differs from `blankByte`. -/
abbrev Memory := List Host.Cell

/-- DESIGN CHOICE (log 2): what a byte that nothing has written reads as; the spec does not give the contents of a new memory. -/
def blankByte : Byte := 0xFF

/-- One byte of the memory. -/
def Memory.read : Memory → Nat → Byte
  | [], _ => blankByte
  | (k, v) :: rest, a => if k = a then v else Memory.read rest a

/-- Bytes of successive offsets (a read transfer, R182). -/
def Memory.readBytes (m : Memory) (a n : Nat) : List Byte := (List.range n).map fun i => Memory.read m (a + i)

/-- A cell that keeps the canonical form: a blank byte is not listed. -/
def Memory.cell (a : Nat) (v : Byte) : Memory := if v = blankByte then [] else [(a, v)]

/-- Write one byte, keeping the canonical form. -/
def Memory.write : Memory → Nat → Byte → Memory
  | [], a, v => Memory.cell a v
  | (k, w) :: rest, a, v =>
    if a < k then Memory.cell a v ++ (k, w) :: rest
    else if a = k then Memory.cell a v ++ rest
    else (k, w) :: Memory.write rest a v

/-- Write bytes at successive offsets (a write transfer, R182). -/
def Memory.writeBytes (m : Memory) (a : Nat) : List Byte → Memory
  | [] => m
  | v :: vs => Memory.writeBytes (Memory.write m a v) (a + 1) vs

/-- Write those of the bytes that land (a failing write, R193). -/
def Memory.writeLanding (lands : Nat → Bool) (m : Memory) (a : Nat) : List Byte → Memory
  | [] => m
  | v :: vs => Memory.writeLanding lands (if lands a then Memory.write m a v else m) (a + 1) vs

/-- The canonical form, above a lower bound of the addresses. -/
def Memory.wfFrom : Nat → Memory → Bool
  | _, [] => true
  | lo, (k, v) :: rest => decide (lo ≤ k) && decide (v ≠ blankByte) && Memory.wfFrom (k + 1) rest

/-- The canonical form holds. -/
def Memory.wf (m : Memory) : Bool := Memory.wfFrom 0 m

end Sys2Proof.Machine
end

