-- ==== Sys2Proof/Config.lean ====
section
/-! DEFINITION. The times the spec fixes, and the values it leaves open. A value the spec leaves open is an opaque constant: it has
no body, so nothing can be proved of it beyond what holds of every value. -/

namespace Sys2Proof.Config

/-- The silence that takes an ALIGNED link to SILENT, in ms (R137). -/
def silenceMs : Nat := 50
/-- The longest a probe runs, in ms (R145). -/
def probeMs : Nat := 10
/-- From ABSENT entry to the probe retry, in ms (R145). -/
def probeRetryMs : Nat := 1000
/-- The return watch of an ALIGNED downstream port, in ms (R145). -/
def returnWatchMs : Nat := 50
/-- The deadline of an outstanding sweep entry, in ms (R157, R162). -/
def outstandingMs : Nat := 5
/-- The activity stretch, in ms (R111, R155). -/
def stretchMs : Nat := 50
/-- The light tick, in ms (R118). -/
def lightTickMs : Nat := 10
/-- The control period, in ms (section 4.3). -/
def controlPeriodMs : Nat := 1000
/-- The grace of a STARTING fan, in ms (R90). -/
def graceMs : Nat := 5000
/-- The longest the CMP waits for the memory to acknowledge its address, in ms (R182). -/
def acknowledgeMs : Nat := 10
/-- A line of the memory's bus held low for so long is a memory failure, in ms (R182). -/
def stuckBusMs : Nat := 25
/-- The longest internal write cycle of the configuration memory, in ms (R192). -/
def writeCycleMaxMs : Nat := 5
/-- The longest a load takes from its start, in ms (R187). -/
def loadMaxMs : Nat := 100
/-- The longest a load that falls back at the marker or the version takes from the memory's first acknowledge, in ms (R187). -/
def shortLoadMs : Nat := 5
/-- The quiesce limit, in ms (R178). -/
def quiesceLimitMs : Nat := 60000
/-- The most replies the reply queue holds (R150). -/
def replyQueueMax : Nat := 4
/-- The most returns that wait at once (R149). -/
def pendingReturnsMax : Nat := 3
/-- The most entries of the outstanding sweep list (R158). -/
def outstandingMax : Nat := 2
/-- The error count at which the link enters FAULT (R141). -/
def errorFault : Nat := 256
/-- The error count at and above which the link is DEGRADED (R141). -/
def errorDegraded : Nat := 128
/-- The error count at and above which the qualifier is WARNING (R141). -/
def errorWarning : Nat := 96

/-- FREE VALUE (log 5): whether the byte at this offset of a failing write of a save lands in the configuration memory. R193 leaves it open
("written only if the memory completed the cycle it did not acknowledge"; "image partly rewritten"). First argument: the free
value counter of State; second: the offset. -/
opaque failedByteLands : Nat → Nat → Bool

/-- FREE VALUE (log 6): the four bytes of "last grant time" in a BAYS record whose "last grant present" byte is 0 (section 11.4 gives the
field no value then). First argument: the free value counter; second: the bay. -/
opaque absentGrantTime : Nat → Nat → BitVec 32

/-- FREE VALUE (log 7): the four bytes of "shed-since" in a ZONES record whose SHED is clear (section 11.4: "read only while SHED is
set"). First argument: the free value counter; second: the zone. -/
opaque clearShedSince : Nat → Nat → BitVec 32

/-- FREE VALUE (log 42): how long, in ms, the memory takes over the internal write cycle that a reset finds it in. R192 gives "up to 5 ms". Argument: the free value counter of
State. -/
opaque writeCycleMs : Nat → Fin 6

end Sys2Proof.Config
end

