-- ==== Sys2Proof/Machine/Tables.lean ====
section
/-! DEFINITION. The eleven tables (R169): their records, their field ranges and constraints, and their built-in defaults. -/

namespace Sys2Proof.Machine

/-- The eleven tables, by the ids of section 9.2. -/
inductive TableId where
  | bayMap | baySettings | classes | limits | indications | patterns | curves | sensors | zones | fans | linkSettings
  deriving DecidableEq, Repr

/-- The bay policy (R10). -/
inductive Policy where
  | auto | manual
  deriving DecidableEq, Repr

/-- An entry of the bay settings table (R171). -/
structure BaySetting where
  policy : Policy
  zone : ZoneId
  shedRank : Fin 16
  priority : Fin 8
  lightFloor : Fin 16
  cls : ClassId
  deriving DecidableEq, Repr

/-- A record of the drive class table (R27). Currents in units of 10 mA, ramp and drain times in steps of 100 ms, weight in per mille. -/
structure DriveClass where
  inrush12 : Nat
  steady12 : Nat
  steady5 : Nat
  rampTime : Nat
  drainTime : Nat
  weight : Nat
  deriving DecidableEq, Repr

/-- The order modes of the power-up queue (R42, R43). -/
inductive OrderMode where
  | strict | fitFirst
  deriving DecidableEq, Repr

/-- The limits record (R29). -/
structure Limits where
  rail12 : Nat
  rail5 : Nat
  branch : Vector Nat 6
  maxRamps : Nat
  stagger : Nat
  orderMode : OrderMode
  autonomous : Bool
  insertionDebounce : Nat
  removalDebounce : Nat
  pgTimeout : Nat
  retryLimit : Nat
  backoffBase : Nat
  deriving DecidableEq, Repr

/-- An entry of the indication table (R115): `none` is TRANSPARENT. -/
structure IndicationEntry where
  level : Fin 16
  patternA : Option PatternId
  patternB : Option PatternId
  deriving DecidableEq, Repr

/-- The phase modes of a pattern (R119). -/
inductive PhaseMode where
  | shared | restart
  deriving DecidableEq, Repr

/-- One step of a pattern: its level, and its duration in light ticks (R119). -/
structure PatternStep where
  on : Bool
  duration : Nat
  deriving DecidableEq, Repr

/-- A pattern (R119); the step count is the length of the list. -/
structure Pattern where
  mode : PhaseMode
  steps : List PatternStep
  deriving DecidableEq, Repr

/-- A point of a curve: a temperature in half-degrees and a duty in per mille (R73). -/
structure CurvePoint where
  temp : Int
  duty : Nat
  deriving DecidableEq, Repr

/-- A curve (R73); the point count is the length of the list. -/
structure Curve where
  points : List CurvePoint
  hold : Option Int
  shed : Option Int
  deriving DecidableEq, Repr

/-- An entry of the sensor sources table (R54). -/
structure SensorSetting where
  offset : Int
  curve : CurveId
  mask : Vector Bool 3
  deriving DecidableEq, Repr

/-- A zone record (R75). -/
structure ZoneSetting where
  baseFloor : Nat
  hysteresis : Nat
  slewUp : Nat
  slewDown : Nat
  staleFloor : Nat
  sensorFailFloor : Nat
  linkLostFloor : Nat
  boostDuty : Nat
  driveCurve : CurveId
  reportsExpected : Bool
  fansForHold : Nat
  shedDelay : Nat
  shedInterval : Nat
  deriving DecidableEq, Repr

/-- A fan record (R76). -/
structure FanSetting where
  zone : ZoneId
  minDuty : Nat
  maxDuty : Nat
  stopAllowed : Bool
  pwmFrequency : Nat
  pulsesPerRev : Nat
  floorRpm : Nat
  deriving DecidableEq, Repr

/-- The link settings table (R140), both fields in seconds. -/
structure LinkSetting where
  autonomyTimeout : Nat
  driveAgeLimit : Nat
  deriving DecidableEq, Repr

/-- The eleven tables together. A bay map entry of `none` is the value 255, no slot (R153). -/
structure Tables where
  bayMap : Vector (Option SlotId) 24
  baySettings : Vector BaySetting 24
  classes : Vector DriveClass 8
  limits : Limits
  indications : Vector IndicationEntry 32
  patterns : Vector Pattern 16
  curves : Vector Curve 6
  sensors : Vector SensorSetting 4
  zones : Vector ZoneSetting 3
  fans : Vector FanSetting 6
  link : LinkSetting
  deriving DecidableEq, Repr

/-! ### Built-in defaults -/

/-- R153: Bn is mapped to slot n. -/
def defaultBayMap : Vector (Option SlotId) 24 := Vector.ofFn fun b => some ⟨b.val, by omega⟩

/-- R171. -/
def defaultBaySettings : Vector BaySetting 24 :=
  Vector.ofFn fun b =>
    { policy := .auto, zone := ⟨b.val / 8, by omega⟩, shedRank := 1, priority := 0, lightFloor := 0, cls := 0 }

/-- R27. -/
def defaultClass : DriveClass :=
  { inrush12 := 200, steady12 := 80, steady5 := 100, rampTime := 100, drainTime := 20, weight := 10 }

/-- R29. -/
def defaultLimits : Limits :=
  { rail12 := 2400, rail5 := 2400, branch := Vector.replicate 6 800, maxRamps := 2, stagger := 100, orderMode := .strict,
    autonomous := true, insertionDebounce := 25, removalDebounce := 20, pgTimeout := 10, retryLimit := 2, backoffBase := 2 }

/-- One row of the default indication table (R115). -/
def defaultIndication (id : IndicationId) : IndicationEntry :=
  match id.val with
  | 1 => ⟨12, none, some 4⟩
  | 2 => ⟨14, none, some 0⟩
  | 3 => ⟨9, some 3, none⟩
  | 4 => ⟨11, none, some 6⟩
  | 5 => ⟨4, some 7, none⟩
  | 6 => ⟨7, none, some 2⟩
  | 7 => ⟨10, none, some 3⟩
  | 16 => ⟨6, some 5, none⟩
  | 17 => ⟨3, some 3, none⟩
  | 18 => ⟨3, some 2, none⟩
  | 19 => ⟨5, some 3, none⟩
  | 20 => ⟨2, some 0, none⟩
  | 21 => ⟨13, some 1, some 0⟩
  | 22 => ⟨13, some 1, some 2⟩
  | 23 => ⟨4, some 2, none⟩
  | 24 => ⟨5, some 1, some 7⟩
  | 25 => ⟨8, none, some 2⟩
  | 26 => ⟨1, none, some 7⟩
  | 27 => ⟨15, none, some 4⟩
  | 28 => ⟨1, none, none⟩
  | _ => ⟨0, none, none⟩

/-- One row of the default pattern table (R119). -/
def defaultPattern (p : PatternId) : Pattern :=
  match p.val with
  | 0 => ⟨.shared, [⟨true, 100⟩]⟩
  | 2 => ⟨.shared, [⟨true, 50⟩, ⟨false, 50⟩]⟩
  | 3 => ⟨.shared, [⟨true, 25⟩, ⟨false, 25⟩]⟩
  | 4 => ⟨.shared, [⟨true, 10⟩, ⟨false, 10⟩]⟩
  | 5 => ⟨.restart, [⟨false, 4⟩, ⟨true, 4⟩]⟩
  | 6 => ⟨.shared, [⟨true, 10⟩, ⟨false, 10⟩, ⟨true, 10⟩, ⟨false, 70⟩]⟩
  | 7 => ⟨.shared, [⟨true, 10⟩, ⟨false, 190⟩]⟩
  | _ => ⟨.shared, [⟨false, 100⟩]⟩

/-- R73: the default of all six curves. -/
def defaultCurve : Curve :=
  { points := [⟨50, 250⟩, ⟨70, 400⟩, ⟨90, 700⟩, ⟨110, 1000⟩], hold := some 110, shed := some 120 }

/-- R54: S0 counts in Z0, S1 in Z1, S2 in Z2 and S3 in all three. -/
def defaultSensor (k : SensorId) : SensorSetting :=
  { offset := 0, curve := 0, mask := Vector.ofFn fun z => decide (k.val = z.val ∨ k.val = 3) }

/-- R75. -/
def defaultZone : ZoneSetting :=
  { baseFloor := 250, hysteresis := 20, slewUp := 100, slewDown := 20, staleFloor := 500, sensorFailFloor := 700,
    linkLostFloor := 600, boostDuty := 1000, driveCurve := 1, reportsExpected := true, fansForHold := 2, shedDelay := 30,
    shedInterval := 20 }

/-- R76: F0 and F1 in Z0, F2 and F3 in Z1, F4 and F5 in Z2. -/
def defaultFan (f : FanId) : FanSetting :=
  { zone := ⟨f.val / 2, by omega⟩, minDuty := 200, maxDuty := 1000, stopAllowed := false, pwmFrequency := 250,
    pulsesPerRev := 2, floorRpm := 600 }

/-- R140. -/
def defaultLinkSetting : LinkSetting := { autonomyTimeout := 5, driveAgeLimit := 30 }

/-- All eleven tables at their built-in defaults (R184). -/
def defaultTables : Tables :=
  { bayMap := defaultBayMap
    baySettings := defaultBaySettings
    classes := Vector.replicate 8 defaultClass
    limits := defaultLimits
    indications := Vector.ofFn defaultIndication
    patterns := Vector.ofFn defaultPattern
    curves := Vector.replicate 6 defaultCurve
    sensors := Vector.ofFn defaultSensor
    zones := Vector.replicate 3 defaultZone
    fans := Vector.ofFn defaultFan
    link := defaultLinkSetting }

/-! ### Field ranges and constraints (step 4 and step 5 of R170) -/

/-- R27, the ranges. -/
def DriveClass.inRange (c : DriveClass) : Bool :=
  decide (c.inrush12 ≤ 500 ∧ c.steady12 ≤ 300 ∧ c.steady5 ≤ 300 ∧ 1 ≤ c.rampTime ∧ c.rampTime ≤ 255 ∧ c.drainTime ≤ 255 ∧
    c.weight ≤ 100)

/-- R27, the constraint: steady12 at or below inrush12. -/
def DriveClass.constraint (c : DriveClass) : Bool := decide (c.steady12 ≤ c.inrush12)

/-- R29. -/
def Limits.inRange (l : Limits) : Bool :=
  decide (l.rail12 ≤ 9999 ∧ l.rail5 ≤ 9999 ∧ (∀ g : GroupId, l.branch[g] ≤ 2000) ∧ 1 ≤ l.maxRamps ∧ l.maxRamps ≤ 8 ∧
    l.stagger ≤ 255 ∧ 1 ≤ l.insertionDebounce ∧ l.insertionDebounce ≤ 255 ∧ 1 ≤ l.removalDebounce ∧
    l.removalDebounce ≤ 255 ∧ 1 ≤ l.pgTimeout ∧ l.pgTimeout ≤ 50 ∧ l.retryLimit ≤ 7 ∧ 1 ≤ l.backoffBase ∧ l.backoffBase ≤ 60)

/-- R119. -/
def Pattern.inRange (p : Pattern) : Bool :=
  decide (1 ≤ p.steps.length ∧ p.steps.length ≤ 8) && p.steps.all fun s => decide (1 ≤ s.duration ∧ s.duration ≤ 255)

/-- The length of a pattern in light ticks (R119). -/
def Pattern.length (p : Pattern) : Nat := (p.steps.map (·.duration)).sum

/-- A temperature from −40.0 °C to 125.0 °C, in half-degrees (R73). -/
def temperatureInRange (t : Int) : Bool := decide (-80 ≤ t ∧ t ≤ 250)

/-- R73, the ranges. -/
def Curve.inRange (c : Curve) : Bool :=
  decide (2 ≤ c.points.length ∧ c.points.length ≤ 8) && c.points.all (fun p => temperatureInRange p.temp && decide (p.duty ≤ 1000)) &&
    c.hold.all temperatureInRange && c.shed.all temperatureInRange

/-- R73: from point to point the temperatures strictly increase and the duties do not decrease. -/
def pointsOrdered : List CurvePoint → Bool
  | p :: q :: rest => decide (p.temp < q.temp ∧ p.duty ≤ q.duty) && pointsOrdered (q :: rest)
  | _ => true

/-- R73: a shed temperature requires a hold temperature and lies above it. -/
def thresholdsOrdered : Option Int → Option Int → Bool
  | _, none => true
  | none, some _ => false
  | some h, some s => decide (h < s)

/-- R73, the constraint. -/
def Curve.constraint (c : Curve) : Bool := pointsOrdered c.points && thresholdsOrdered c.hold c.shed

/-- R54. -/
def SensorSetting.inRange (s : SensorSetting) : Bool := decide (-16 ≤ s.offset ∧ s.offset ≤ 15)

/-- R75. -/
def ZoneSetting.inRange (z : ZoneSetting) : Bool :=
  decide (z.baseFloor ≤ 1000 ∧ z.hysteresis ≤ 200 ∧ 1 ≤ z.slewUp ∧ z.slewUp ≤ 1000 ∧ 1 ≤ z.slewDown ∧ z.slewDown ≤ 1000 ∧
    z.staleFloor ≤ 1000 ∧ z.sensorFailFloor ≤ 1000 ∧ z.linkLostFloor ≤ 1000 ∧ z.boostDuty ≤ 1000 ∧ 1 ≤ z.fansForHold ∧
    z.fansForHold ≤ 6 ∧ 1 ≤ z.shedDelay ∧ z.shedDelay ≤ 255 ∧ 1 ≤ z.shedInterval ∧ z.shedInterval ≤ 255)

/-- R76, the ranges. -/
def FanSetting.inRange (f : FanSetting) : Bool :=
  decide (f.minDuty ≤ 1000 ∧ f.maxDuty ≤ 1000 ∧ 1 ≤ f.pwmFrequency ∧ f.pwmFrequency ≤ 600 ∧ 1 ≤ f.pulsesPerRev ∧
    f.pulsesPerRev ≤ 4 ∧ f.floorRpm ≤ 25000)

/-- R76, the constraint: max duty at or above min duty. -/
def FanSetting.constraint (f : FanSetting) : Bool := decide (f.minDuty ≤ f.maxDuty)

/-- R140. -/
def LinkSetting.inRange (l : LinkSetting) : Bool :=
  decide (1 ≤ l.autonomyTimeout ∧ l.autonomyTimeout ≤ 60 ∧ 1 ≤ l.driveAgeLimit ∧ l.driveAgeLimit ≤ 255)

/-- R153: no stream slot is mapped to two bays of one part. -/
def bayMapUnique (m : Vector (Option SlotId) 24) : Bool :=
  (List.finRange 24).all fun i => (List.finRange 24).all fun j => decide (i = j) || (m[i].isNone || decide (m[i] ≠ m[j]))

/-- Every field of every table is in its range and every constraint of R170 step 5 holds. -/
def Tables.wf (t : Tables) : Bool :=
  bayMapUnique t.bayMap &&
  (List.finRange 8).all (fun c => t.classes[c].inRange && t.classes[c].constraint) &&
  t.limits.inRange &&
  (List.finRange 16).all (fun p => t.patterns[p].inRange) &&
  (List.finRange 6).all (fun k => t.curves[k].inRange && t.curves[k].constraint) &&
  (List.finRange 4).all (fun k => t.sensors[k].inRange) &&
  (List.finRange 3).all (fun z => t.zones[z].inRange) &&
  (List.finRange 6).all (fun f => t.fans[f].inRange && t.fans[f].constraint) &&
  t.link.inRange

end Sys2Proof.Machine
end

