-- ==== Sys2Proof/Machine/State.lean ====
section
/-! DEFINITION. Everything the spec gives the part to hold, block by block (00_scope, "Blocks"), as plain data; its value right after power-on reset;
and the reasons a step can stop. -/

namespace Sys2Proof.Machine

/-! ### Reasons to stop -/

/-- Faults: none. Every command of the table has an effect or leaves the part as it is, so no meaning ends in a fault. -/
inductive Fault where
  deriving DecidableEq, Repr

/-- Refusals. -/
inductive Refusal where
  /-- Raised by no arm of this model: an arm of `exec` that had no meaning yet would answer it. Safe: a refused command has no next state. -/
  | notModelled (mnemonic : String)
  deriving DecidableEq, Repr

/-! ### The bays (BSV, chapter 1) -/

/-- The ten states of section 1.1. -/
inductive BayState where
  | empty | settling | presentOff | queued | ramping | powered | removing | parked | powerFault | lockedOut
  deriving DecidableEq, Repr

/-- The bay record (R5). Times are on the 1 ms time base; `lastGrant` is in whole seconds of uptime. -/
structure BayRecord where
  state : BayState
  cls : ClassId
  charge12 : Nat
  charge5 : Nat
  steady12 : Nat
  rampDeadline : Option Nat
  pgDeadline : Option Nat
  retryCount : Nat
  backoffDeadline : Option Nat
  drainDeadline : Option Nat
  shedParked : Bool
  surprise : Bool
  identify : Bool
  marks : Vector Bool 3
  lastGrant : Option Nat
  deriving DecidableEq, Repr

/-- The inputs of one bay: the levels on its three pins (`true` is asserted), the raw samples last taken, the qualified levels (R1), the removal
count (R3) and the time the insertion debounce started (R2). -/
structure BayInput where
  presPin : Bool
  pgPin : Bool
  fltPin : Bool
  presLast : Option Bool
  pgLast : Option Bool
  fltLast : Option Bool
  pg : Bool
  flt : Bool
  removalCount : Nat
  settleStart : Option Nat
  deriving DecidableEq, Repr

/-! ### The power sequencer (PSQ, chapter 2) -/

/-- An entry of the power-up queue: a bay, and its grant priority as read when it joined (R31). -/
structure QueueEntry where
  bay : BayId
  priority : Fin 8
  deriving DecidableEq, Repr

/-- A shed engine record: its phase, with the start time where it has one (R50). -/
inductive ShedRecord where
  | idle
  | delay (start : Nat)
  | interval (start : Nat)
  | owed
  deriving DecidableEq, Repr

/-- What the PSQ holds beside its tables. The stagger timer holds the time of its last start, or stands expired: `none` (R41). -/
structure Psq where
  queue : List QueueEntry
  committed12 : Nat
  committed5 : Nat
  branch : Vector Nat 6
  rampingCount : Nat
  stagger : Option Nat
  quiescePending : Bool
  shed : Vector ShedRecord 3
  deriving DecidableEq, Repr

/-! ### The temperature sources (TMON, chapter 3) -/

/-- The states of a local sensor (R57). -/
inductive SensorState where
  | pending | ok | failed
  deriving DecidableEq, Repr

/-- A local sensor source: its state and its held reading in half-degrees (R57). -/
structure Sensor where
  state : SensorState
  held : Option Int
  deriving DecidableEq, Repr

/-- The converter's reading of an open THERM input: 191.5 °C (R55). -/
def openReading : Int := 383

/-- The states of a drive source (R60). -/
inductive DriveState where
  | absent | valid | stale
  deriving DecidableEq, Repr

/-- A drive source: state, value in whole degrees, report time (R60). -/
structure Drive where
  state : DriveState
  value : Option Nat
  reportTime : Option Nat
  deriving DecidableEq, Repr

/-! ### The fans and zones (FCT, chapters 4 and 5) -/

/-- Which of the condition floors applied at the last period end (R93). -/
structure FloorsApplied where
  stale : Bool
  sensorFail : Bool
  linkLost : Bool
  deriving DecidableEq, Repr

/-- A zone's state. -/
structure Zone where
  held : Nat
  output : Nat
  raw : Option Nat
  target : Option Nat
  weightFloor : Option Nat
  floors : FloorsApplied
  failedFans : Nat
  hold : Bool
  shed : Bool
  shedSince : Option Nat
  deriving DecidableEq, Repr

/-- The states of a fan (R89). -/
inductive FanState where
  | stopped | starting | running | failed
  deriving DecidableEq, Repr

/-- A fan's state. `divisor` and `compare` are the values loaded most recently, `divisorNow` and `compareNow` those of the PWM cycle in progress
(R86). `pulses` is the count of the open window. `skipWindow` says that the open window will not be judged (R90: the fan left STARTING in it). -/
structure Fan where
  duty : Nat
  divisor : Nat
  compare : Nat
  divisorNow : Nat
  compareNow : Nat
  state : FanState
  grace : Option Nat
  lowCount : Nat
  goodCount : Nat
  pulses : Nat
  lastRpm : Option Nat
  skipWindow : Bool
  deriving DecidableEq, Repr

/-! ### The lights (LEN, chapter 6) -/

/-- A line record (R124). `manual` is the manual level: present in MANUAL mode, absent in ENGINE mode, and so it is the mode as well. -/
structure Line where
  manual : Option Bool
  shown : Option IndicationId
  pattern : Option PatternId
  offset : Nat
  engine : Bool
  driven : Bool
  deriving DecidableEq, Repr

/-- What the LEN holds beside its tables. `active` is the set of indications active for each bay at the last light tick (R127); `written` is the
set of patterns named in a pattern table write since then (R122). -/
structure Len where
  clock : Nat
  linkLost : Bool
  lineA : Vector Line 24
  lineB : Vector Line 24
  active : Vector (Vector Bool 32) 24
  written : Vector Bool 16
  deriving DecidableEq, Repr

/-! ### The slot mapper (SMAP, chapter 8) -/

/-- The applied state of a bay: its condition code and its stretch deadline (section 8.2). -/
structure Applied where
  condition : Fin 16
  stretch : Option Nat
  deriving DecidableEq, Repr

/-! ### The link (LIU, chapters 7 and 8) -/

/-- The upstream link states (section 7.2). -/
inductive LinkState where
  | disabled | listen | training | aligned | silent | lost | fault
  deriving DecidableEq, Repr

/-- The downstream port states (R144). -/
inductive PortState where
  | off | probing | aligned | absent
  deriving DecidableEq, Repr

/-- The payload of a RETURN (R131, R159). -/
structure ReturnFrame where
  number : Byte
  attention : Bool
  originator : Byte
  slots : Slots
  deriving DecidableEq, Repr

/-- The payload of a REPLY (R131). `restart` marks the reply whose end the MRU waits for in SENDING (R178). -/
structure ReplyFrame where
  source : Byte
  tag : Byte
  status : Byte
  payload : List Byte
  restart : Bool
  deriving DecidableEq, Repr

/-- A frame forwarded on the downstream lane (R146). -/
inductive DownFrame where
  | sweep (number : Byte) (slots : Slots)
  | request (target tag kind : Byte) (payload : List Byte)
  deriving DecidableEq, Repr

/-- What the return lane carries (R149). -/
inductive UpLane where
  | idle
  | training (kind : TrainKind) (hop : BitVec 4)
  | fill
  | ret (r : ReturnFrame)
  | reply (r : ReplyFrame)
  deriving DecidableEq, Repr

/-- What the downstream lane carries (R144, R146). A probing lane sends training words alternately A and B with one hop (R145). -/
inductive DownLane where
  | idle
  | probing (hop : Nat)
  | fill
  | frame (f : DownFrame)
  deriving DecidableEq, Repr

/-- An entry of the outstanding sweep list (R158). -/
structure Outstanding where
  number : Byte
  deadline : Nat
  deriving DecidableEq, Repr

/-- What the LIU holds. `trainWord` is the last training word taken in TRAINING (its hop is the training hop), `answered` the last training word
answered on the return lane, `frameTaken` whether a valid frame has been taken since entry to ALIGNED (R136). -/
structure Liu where
  link : LinkState
  lostLatch : Bool
  errorCount : Nat
  position : Option (Fin 4)
  silenceStart : Option Nat
  alternation : Nat
  trainWord : Option (TrainKind × BitVec 4)
  answered : Option (TrainKind × BitVec 4)
  frameTaken : Bool
  upLane : UpLane
  pendingReturns : List ReturnFrame
  replyQueue : List ReplyFrame
  port : PortState
  probeStart : Option Nat
  probeCount : Nat
  probeAnswer : Option TrainKind
  retryDue : Option Nat
  returnWatch : Option Nat
  downLane : DownLane
  forwardQueue : List DownFrame
  outstanding : List Outstanding
  deriving DecidableEq, Repr

/-! ### Requests and the configuration memory (MRU and CMP, chapters 9 and 10) -/

/-- The attention kinds, in the order of the table in R176. -/
inductive AttentionKind where
  | bayState | powerFault | lockout | surpriseRemoval | fanFailed | sensorFailed | zoneHold | zoneShed | linkWarning
  | returnMissing | configDefault | configClamped | saveDone | saveFailed | restarted
  deriving DecidableEq, Repr

/-- The MRU's states, with the current request's tag and, in QUIESCING, the time of taking (section 9.6). -/
inductive MruState where
  | idle
  | quiescing (tag : Byte) (taken : Nat)
  | sending (tag : Byte)
  deriving DecidableEq, Repr

/-- What the MRU holds. Bit k of `attention` is the kind of place k in R176. -/
structure Mru where
  state : MruState
  attention : BitVec 15
  saveInProgress : Bool
  deriving DecidableEq, Repr

/-- The three steps of a save (R192). -/
inductive SaveStep where
  | erase | body | marker
  deriving DecidableEq, Repr

/-- One write of a save. -/
structure SaveWrite where
  step : SaveStep
  offset : Nat
  bytes : List Byte
  deriving DecidableEq, Repr

/-- The CMP's states (R182). A save holds the writes not yet acknowledged; the first of them is the one sent. -/
inductive CmpState where
  | idle
  | loading
  | saving (writes : List SaveWrite)
  deriving DecidableEq, Repr

/-- What the CMP holds, with the memory it owns; the per-table default and clamp flags of the last load, by table id (R185, R186). `waitStart` is the time at which
its wait for the memory's acknowledge began: the begin of the load that runs, or the moment the write in front of the save was sent; it is absent while no load runs and
before the erase of a save is sent (R182, R193). `readStart` is the time at which the memory acknowledged in the wait of a load, so that the reading began. `answersFrom` and `heldLow`
are the outside's: since when, or from when on, the memory acknowledges its address, and since when CMSCL or CMSDA has been held low against the CMP (R182). -/
structure Cmp where
  state : CmpState
  mem : Memory
  waitStart : Option Nat
  readStart : Option Nat
  answersFrom : Option Nat
  heldLow : Option Nat
  defaulted : Vector Bool 11
  clamped : Vector Bool 11
  deriving DecidableEq, Repr

/-! ### The part -/

/-- Where the part stands in its start-up (sections 10.3 and 10.4): held in power-on reset; reading the power-on load; running; waiting for RSTn
after a controller reset; reading the load of a controller reset. -/
inductive Phase where
  | powerOnHold | powerOnLoad | running | resetHold | resetLoad
  deriving DecidableEq, Repr

/-- The TB: the 1 ms time base, the time of the start of the part (uptime 0), and the times of the next light tick and period end. -/
structure Timebase where
  now : Nat
  startTime : Option Nat
  nextLight : Option Nat
  nextPeriod : Option Nat
  deriving DecidableEq, Repr

/-- The whole part. `therm` is the reading that each THERM input gives the converter, in half-degrees (R55), and `converted` how many of the four
conversions of the control period have completed: S0 first, S3 last (R55). `freeCount` is the model's own field (log 4): the counter the free values are read at. `pending` is the queue of the commands that
are waiting, first in, first out. -/
structure State where
  phase : Phase
  rstn : Bool
  tb : Timebase
  tables : Tables
  bays : Vector BayRecord 24
  inputs : Vector BayInput 24
  psq : Psq
  sensors : Vector Sensor 4
  therm : Vector Int 4
  converted : Fin 5
  drives : Vector Drive 24
  zones : Vector Zone 3
  fans : Vector Fan 6
  smap : Vector Applied 24
  len : Len
  liu : Liu
  mru : Mru
  cmp : Cmp
  freeCount : Nat
  pending : List Instr
  deriving DecidableEq, Repr

/-! ### The state right after power-on reset -/

/-- The EMPTY values of a bay record of this class (R9, R26). -/
def BayRecord.initial (c : ClassId) : BayRecord :=
  { state := .empty, cls := c, charge12 := 0, charge5 := 0, steady12 := 0, rampDeadline := none, pgDeadline := none, retryCount := 0
    backoffDeadline := none, drainDeadline := none, shedParked := false, surprise := false, identify := false
    marks := Vector.replicate 3 false, lastGrant := none }

/-- R1, R3: levels deasserted, histories empty, counts 0. The pins themselves are inputs; no carrier is seated (log 3). -/
def BayInput.initial : BayInput :=
  { presPin := false, pgPin := false, fltPin := false, presLast := none, pgLast := none, fltLast := none, pg := false, flt := false
    removalCount := 0, settleStart := none }

/-- Section 2.9. -/
def Psq.initial : Psq :=
  { queue := [], committed12 := 0, committed5 := 0, branch := Vector.replicate 6 0, rampingCount := 0, stagger := none
    quiescePending := false, shed := Vector.replicate 3 .idle }

/-- R70. -/
def Sensor.initial : Sensor := { state := .pending, held := none }

/-- R71. -/
def Drive.initial : Drive := { state := .absent, value := none, reportTime := none }

/-- R94, R107. -/
def Zone.initial : Zone :=
  { held := 0, output := 1000, raw := none, target := none, weightFloor := none, floors := ⟨false, false, false⟩, failedFans := 0
    hold := false, shed := false, shedSince := none }

/-- R87, R94: held high, as a compare count equal to N; N is 1000 before the load. -/
def Fan.initial : Fan :=
  { duty := 1000, divisor := 1000, compare := 1000, divisorNow := 1000, compareNow := 1000, state := .starting, grace := none
    lowCount := 0, goodCount := 0, pulses := 0, lastRpm := none, skipWindow := false }

/-- R128. -/
def Line.initial : Line :=
  { manual := none, shown := none, pattern := none, offset := 0, engine := false, driven := false }

/-- R128. DESIGN CHOICE (log 39): the pattern clock holds 0 until the light engine starts, from where on R120 gives it. -/
def Len.initial : Len :=
  { clock := 0, linkLost := false, lineA := Vector.replicate 24 Line.initial, lineB := Vector.replicate 24 Line.initial
    active := Vector.replicate 24 (Vector.replicate 32 false), written := Vector.replicate 16 false }

/-- R165. -/
def Applied.initial : Applied := { condition := 0, stretch := none }

/-- R151. -/
def Liu.initial : Liu :=
  { link := .disabled, lostLatch := false, errorCount := 0, position := none, silenceStart := none, alternation := 0, trainWord := none
    answered := none, frameTaken := false, upLane := .idle, pendingReturns := [], replyQueue := [], port := .off, probeStart := none
    probeCount := 0, probeAnswer := none, retryDue := none, returnWatch := none, downLane := .idle, forwardQueue := []
    outstanding := [] }

/-- R181. -/
def Mru.initial : Mru := { state := .idle, attention := 0, saveInProgress := false }

/-- R182: after power-on reset the CMP is LOADING. DESIGN CHOICE (log 3): the memory acknowledges its address, and its bus is free. -/
def Cmp.initial : Cmp :=
  { state := .loading, mem := [], waitStart := none, readStart := none, answersFrom := some 0, heldLow := none, defaulted := Vector.replicate 11 false
    clamped := Vector.replicate 11 false }

/-- The part in power-on reset (R188), held there until the supply is good and RSTn is high. -/
def State.reset : State :=
  { phase := .powerOnHold
    rstn := false
    tb := { now := 0, startTime := none, nextLight := none, nextPeriod := none }
    tables := defaultTables
    bays := Vector.ofFn fun b => BayRecord.initial defaultTables.baySettings[b].cls
    inputs := Vector.replicate 24 BayInput.initial
    psq := Psq.initial
    sensors := Vector.replicate 4 Sensor.initial
    therm := Vector.replicate 4 openReading
    converted := 0
    drives := Vector.replicate 24 Drive.initial
    zones := Vector.replicate 3 Zone.initial
    fans := Vector.replicate 6 Fan.initial
    smap := Vector.replicate 24 Applied.initial
    len := Len.initial
    liu := Liu.initial
    mru := Mru.initial
    cmp := Cmp.initial
    freeCount := 0
    pending := [] }

end Sys2Proof.Machine
end

