-- ==== Sys2Proof/Machine/Bytes.lean ====
section
/-! DEFINITION. Byte forms of numbers (chapter 11) and the 16-bit check of frames and of the configuration image (R132). -/

namespace Sys2Proof

/-- The number as one byte. -/
def u8 (n : Nat) : Byte := BitVec.ofNat 8 n

/-- The number as two bytes, most significant first. -/
def u16 (n : Nat) : List Byte := [u8 (n / 256), u8 n]

/-- The number as four bytes, most significant first. -/
def u32 (n : Nat) : List Byte := [u8 (n / 16777216), u8 (n / 65536), u8 (n / 256), u8 n]

/-- A signed number in two bytes, two's complement. -/
def s16 (i : Int) : List Byte := u16 (i % 65536).toNat

/-- A signed number in one byte, two's complement. -/
def s8 (i : Int) : Byte := u8 (i % 256).toNat

/-- Two bytes, most significant first, as a number. -/
def be16 (h l : Byte) : Nat := h.toNat * 256 + l.toNat

/-- Two bytes as a signed number. -/
def sbe16 (h l : Byte) : Int := if be16 h l < 32768 then (be16 h l : Int) else (be16 h l : Int) - 65536

/-- One byte as a signed number. -/
def sbyte (b : Byte) : Int := if b.toNat < 128 then (b.toNat : Int) else (b.toNat : Int) - 256

/-- A flag as a byte. -/
def flagByte (b : Bool) : Byte := if b then 1 else 0

/-- The number of a byte as an index of a range, where it lies in it. -/
def Byte.index (n : Nat) (b : Byte) : Option (Fin n) := if h : b.toNat < n then some ⟨b.toNat, h⟩ else none

/-- Flags, bit 0 first, as a number. -/
def bitsOf : List Bool → Nat
  | [] => 0
  | b :: bs => (if b then 1 else 0) + 2 * bitsOf bs

/-- The marker of an absent temperature (section 11.3). -/
def absentTemperature : Nat := 0x7FFF

/-- A temperature in half-degrees, or absent, as two bytes. -/
def temperatureBytes : Option Int → List Byte
  | some t => s16 t
  | none => u16 absentTemperature

/-- One bit, most significant of its byte first, enters the check register: generator x^16 + x^12 + x^5 + 1, not reflected (R132). -/
def crcBit (reg : BitVec 16) (bit : Bool) : BitVec 16 :=
  if (reg.msb != bit) then (reg <<< 1) ^^^ 0x1021 else reg <<< 1

/-- One byte enters the check register, most significant bit first (R132). -/
def crcByte (reg : BitVec 16) (b : Byte) : BitVec 16 :=
  [7, 6, 5, 4, 3, 2, 1, 0].foldl (fun r k => crcBit r (b.getLsbD k)) reg

/-- The check over bytes in their order: the register starts at all ones, and nothing is combined with its final value (R132). -/
def crc16 (bytes : List Byte) : BitVec 16 := bytes.foldl crcByte 0xFFFF

/-- The two check bytes, high byte first (R195). -/
def crcBytes (bytes : List Byte) : List Byte := u16 (crc16 bytes).toNat

end Sys2Proof
end

