-- ==== Sys2Proof/Machine/TableCodec.lean ====
section
/-! DEFINITION. The table entries as bytes (section 11.3), and the checks of a TABLE WRITE from the range to the constraints (R170), which an image
block passes too (R185). -/

namespace Sys2Proof.Machine

/-! ### Ids and sizes -/

/-- The id of a table (section 9.2). -/
def TableId.code : TableId → Nat
  | .bayMap => 0 | .baySettings => 1 | .classes => 2 | .limits => 3 | .indications => 4 | .patterns => 5
  | .curves => 6 | .sensors => 7 | .zones => 8 | .fans => 9 | .linkSettings => 10

/-- All eleven, in id order. -/
def TableId.all : List TableId :=
  [.bayMap, .baySettings, .classes, .limits, .indications, .patterns, .curves, .sensors, .zones, .fans, .linkSettings]

/-- The table a byte names, where it names one. -/
def TableId.ofByte (b : Byte) : Option TableId := TableId.all.find? fun t => t.code == b.toNat

/-- The number of entries (section 9.2). -/
def TableId.entries : TableId → Nat
  | .bayMap => 24 | .baySettings => 24 | .classes => 8 | .limits => 1 | .indications => 32 | .patterns => 16
  | .curves => 6 | .sensors => 4 | .zones => 3 | .fans => 6 | .linkSettings => 1

/-- The encoded length of the entry that begins these bytes; the curves and patterns give their own counts (section 11.3). `none` where the
bytes end before the count. -/
def entryLength (t : TableId) (bytes : List Byte) : Option Nat :=
  match t, bytes with
  | .patterns, _ :: n :: _ => some (2 + 2 * n.toNat)
  | .patterns, _ => none
  | .curves, n :: _ => some (5 + 4 * n.toNat)
  | .curves, [] => none
  | .bayMap, _ => some 1
  | .baySettings, _ => some 6
  | .classes, _ => some 9
  | .limits, _ => some 25
  | .indications, _ => some 3
  | .sensors, _ => some 3
  | .zones, _ => some 20
  | .fans, _ => some 11
  | .linkSettings, _ => some 2

/-- Cut `count` entries off the front of the bytes: the entries and what is left, or `none` where the bytes end too soon. -/
def splitEntries (t : TableId) : Nat → List Byte → Option (List (List Byte) × List Byte)
  | 0, bytes => some ([], bytes)
  | n + 1, bytes =>
    match entryLength t bytes with
    | none => none
    | some k =>
      if bytes.length < k then none
      else
        match splitEntries t n (bytes.drop k) with
        | none => none
        | some (es, rest) => some (bytes.take k :: es, rest)

/-! ### Encoding an entry -/

def Policy.code : Policy → Byte
  | .auto => 0 | .manual => 1

def OrderMode.code : OrderMode → Byte
  | .strict => 0 | .fitFirst => 1

def PhaseMode.code : PhaseMode → Byte
  | .shared => 0 | .restart => 1

/-- 0 to 15 for P0 to P15, 16 for TRANSPARENT. -/
def patternCode : Option PatternId → Byte
  | some p => u8 p.val
  | none => 16

/-- A bay map entry; 255 is no slot. -/
def slotCode : Option SlotId → Byte
  | some s => u8 s.val
  | none => 255

def BaySetting.encode (e : BaySetting) : List Byte :=
  [e.policy.code, u8 e.zone.val, u8 e.shedRank.val, u8 e.priority.val, u8 e.lightFloor.val, u8 e.cls.val]

def DriveClass.encode (c : DriveClass) : List Byte :=
  u16 c.inrush12 ++ u16 c.steady12 ++ u16 c.steady5 ++ [u8 c.rampTime, u8 c.drainTime, u8 c.weight]

def Limits.encode (l : Limits) : List Byte :=
  u16 l.rail12 ++ u16 l.rail5 ++ (List.finRange 6).flatMap (fun g => u16 l.branch[g]) ++
    [u8 l.maxRamps, u8 l.stagger, l.orderMode.code, flagByte l.autonomous, u8 l.insertionDebounce, u8 l.removalDebounce,
      u8 l.pgTimeout, u8 l.retryLimit, u8 l.backoffBase]

def IndicationEntry.encode (e : IndicationEntry) : List Byte := [u8 e.level.val, patternCode e.patternA, patternCode e.patternB]

def Pattern.encode (p : Pattern) : List Byte :=
  [p.mode.code, u8 p.steps.length] ++ p.steps.flatMap fun s => [flagByte s.on, u8 s.duration]

def Curve.encode (c : Curve) : List Byte :=
  [u8 c.points.length] ++ c.points.flatMap (fun p => s16 p.temp ++ u16 p.duty) ++ temperatureBytes c.hold ++ temperatureBytes c.shed

def SensorSetting.encode (s : SensorSetting) : List Byte :=
  [s8 s.offset, u8 s.curve.val, u8 (bitsOf [s.mask[0], s.mask[1], s.mask[2]])]

def ZoneSetting.encode (z : ZoneSetting) : List Byte :=
  u16 z.baseFloor ++ [u8 z.hysteresis] ++ u16 z.slewUp ++ u16 z.slewDown ++ u16 z.staleFloor ++ u16 z.sensorFailFloor ++
    u16 z.linkLostFloor ++ u16 z.boostDuty ++
    [u8 z.driveCurve.val, flagByte z.reportsExpected, u8 z.fansForHold, u8 z.shedDelay, u8 z.shedInterval]

def FanSetting.encode (f : FanSetting) : List Byte :=
  [u8 f.zone.val] ++ u16 f.minDuty ++ u16 f.maxDuty ++ [flagByte f.stopAllowed] ++ u16 f.pwmFrequency ++ [u8 f.pulsesPerRev] ++
    u16 f.floorRpm

def LinkSetting.encode (l : LinkSetting) : List Byte := [u8 l.autonomyTimeout, u8 l.driveAgeLimit]

/-- The entries of a table, each as its bytes, in index order. -/
def Tables.encodeAll (t : Tables) : TableId → List (List Byte)
  | .bayMap => (List.finRange 24).map fun i => [slotCode t.bayMap[i]]
  | .baySettings => (List.finRange 24).map fun i => t.baySettings[i].encode
  | .classes => (List.finRange 8).map fun i => t.classes[i].encode
  | .limits => [t.limits.encode]
  | .indications => (List.finRange 32).map fun i => t.indications[i].encode
  | .patterns => (List.finRange 16).map fun i => t.patterns[i].encode
  | .curves => (List.finRange 6).map fun i => t.curves[i].encode
  | .sensors => (List.finRange 4).map fun i => t.sensors[i].encode
  | .zones => (List.finRange 3).map fun i => t.zones[i].encode
  | .fans => (List.finRange 6).map fun i => t.fans[i].encode
  | .linkSettings => [t.link.encode]

/-- The bytes of `count` entries from `first` on (R169). -/
def Tables.readEntries (t : Tables) (id : TableId) (first count : Nat) : List Byte :=
  (((t.encodeAll id).drop first).take count).flatten

/-! ### Decoding an entry: step 4 of R170 -/

/-- A byte of 0 or 1, where the field defines those two. -/
def flagOf (b : Byte) : Option Bool := if b = 0 then some false else if b = 1 then some true else none

def Policy.ofByte (b : Byte) : Option Policy := (flagOf b).map fun f => if f then .manual else .auto

def OrderMode.ofByte (b : Byte) : Option OrderMode := (flagOf b).map fun f => if f then .fitFirst else .strict

def PhaseMode.ofByte (b : Byte) : Option PhaseMode := (flagOf b).map fun f => if f then .restart else .shared

/-- A pattern field of the indication table: the outer `none` is a value the field does not define (R115). -/
def patternOf (b : Byte) : Option (Option PatternId) :=
  if b = 16 then some none else (Byte.index 16 b).map some

/-- A bay map entry: the outer `none` is a value from 128 to 254 (R153). -/
def slotOf (b : Byte) : Option (Option SlotId) :=
  if b = 255 then some none else (Byte.index 128 b).map some

def BaySetting.decode : List Byte → Option BaySetting
  | [p, z, r, g, f, c] => do
    let policy ← Policy.ofByte p
    let zone ← Byte.index 3 z
    let shedRank ← Byte.index 16 r
    let priority ← Byte.index 8 g
    let lightFloor ← Byte.index 16 f
    let cls ← Byte.index 8 c
    some { policy, zone, shedRank, priority, lightFloor, cls }
  | _ => none

/-- A record, where it is in range. -/
def keepIf {α : Type} (ok : α → Bool) (a : α) : Option α := if ok a then some a else none

def DriveClass.decode : List Byte → Option DriveClass
  | [a, b, c, d, e, f, r, t, w] =>
    keepIf DriveClass.inRange
      { inrush12 := be16 a b, steady12 := be16 c d, steady5 := be16 e f, rampTime := r.toNat, drainTime := t.toNat, weight := w.toNat }
  | _ => none

def Limits.decode : List Byte → Option Limits
  | [a, b, c, d, g0, h0, g1, h1, g2, h2, g3, h3, g4, h4, g5, h5, mr, st, om, au, idb, rdb, pg, rl, bb] => do
    let orderMode ← OrderMode.ofByte om
    let autonomous ← flagOf au
    keepIf Limits.inRange
      { rail12 := be16 a b, rail5 := be16 c d
        branch := #v[be16 g0 h0, be16 g1 h1, be16 g2 h2, be16 g3 h3, be16 g4 h4, be16 g5 h5]
        maxRamps := mr.toNat, stagger := st.toNat, orderMode, autonomous, insertionDebounce := idb.toNat
        removalDebounce := rdb.toNat, pgTimeout := pg.toNat, retryLimit := rl.toNat, backoffBase := bb.toNat }
  | _ => none

def IndicationEntry.decode : List Byte → Option IndicationEntry
  | [l, a, b] => do
    let level ← Byte.index 16 l
    let patternA ← patternOf a
    let patternB ← patternOf b
    some { level, patternA, patternB }
  | _ => none

/-- The steps of a pattern: pairs of a level and a duration. -/
def decodeSteps : List Byte → Option (List PatternStep)
  | [] => some []
  | l :: d :: rest => do
    let on ← flagOf l
    let steps ← decodeSteps rest
    some ({ on, duration := d.toNat } :: steps)
  | _ => none

def Pattern.decode : List Byte → Option Pattern
  | m :: _ :: steps => do
    let mode ← PhaseMode.ofByte m
    let steps ← decodeSteps steps
    keepIf Pattern.inRange { mode, steps }
  | _ => none

/-- A temperature field that may be absent. -/
def temperatureOf (h l : Byte) : Option Int := if be16 h l = absentTemperature then none else some (sbe16 h l)

/-- The points of a curve and its two thresholds. -/
def decodeCurveBody : List Byte → Option (List CurvePoint × Option Int × Option Int)
  | [h, l, s, t] => some ([], temperatureOf h l, temperatureOf s t)
  | a :: b :: c :: d :: rest => do
    let (points, hold, shed) ← decodeCurveBody rest
    some ({ temp := sbe16 a b, duty := be16 c d } :: points, hold, shed)
  | _ => none

def Curve.decode : List Byte → Option Curve
  | _ :: body => do
    let (points, hold, shed) ← decodeCurveBody body
    keepIf Curve.inRange { points, hold, shed }
  | _ => none

/-- Bits 3 to 7 of a zone mask byte are ignored (R197). -/
def SensorSetting.decode : List Byte → Option SensorSetting
  | [o, c, m] => do
    let curve ← Byte.index 6 c
    keepIf SensorSetting.inRange { offset := sbyte o, curve, mask := Vector.ofFn fun z => m.getLsbD z.val }
  | _ => none

def ZoneSetting.decode : List Byte → Option ZoneSetting
  | [b0, b1, h, u0, u1, d0, d1, s0, s1, f0, f1, l0, l1, x0, x1, k, e, n, sd, si] => do
    let driveCurve ← Byte.index 6 k
    let reportsExpected ← flagOf e
    keepIf ZoneSetting.inRange
      { baseFloor := be16 b0 b1, hysteresis := h.toNat, slewUp := be16 u0 u1, slewDown := be16 d0 d1, staleFloor := be16 s0 s1
        sensorFailFloor := be16 f0 f1, linkLostFloor := be16 l0 l1, boostDuty := be16 x0 x1, driveCurve, reportsExpected
        fansForHold := n.toNat, shedDelay := sd.toNat, shedInterval := si.toNat }
  | _ => none

def FanSetting.decode : List Byte → Option FanSetting
  | [z, a, b, c, d, s, p0, p1, ppr, r0, r1] => do
    let zone ← Byte.index 3 z
    let stopAllowed ← flagOf s
    keepIf FanSetting.inRange
      { zone, minDuty := be16 a b, maxDuty := be16 c d, stopAllowed, pwmFrequency := be16 p0 p1, pulsesPerRev := ppr.toNat
        floorRpm := be16 r0 r1 }
  | _ => none

def LinkSetting.decode : List Byte → Option LinkSetting
  | [a, d] => keepIf LinkSetting.inRange { autonomyTimeout := a.toNat, driveAgeLimit := d.toNat }
  | _ => none

/-- The value at index `i`, replaced; `none` where there is no such index. -/
def putAt {α : Type} {n : Nat} (v : Vector α n) (i : Nat) (a : α) : Option (Vector α n) :=
  if h : i < n then some (v.set i a) else none

/-- One entry, checked and put into the table at its index; `none` where a field is not one the table accepts. -/
def Tables.putEntry (t : Tables) (id : TableId) (i : Nat) (raw : List Byte) : Option Tables :=
  match id with
  | .bayMap => match raw with
    | [b] => do let s ← slotOf b; let v ← putAt t.bayMap i s; some { t with bayMap := v }
    | _ => none
  | .baySettings => do let e ← BaySetting.decode raw; let v ← putAt t.baySettings i e; some { t with baySettings := v }
  | .classes => do let e ← DriveClass.decode raw; let v ← putAt t.classes i e; some { t with classes := v }
  | .limits => do let e ← Limits.decode raw; some { t with limits := e }
  | .indications => do let e ← IndicationEntry.decode raw; let v ← putAt t.indications i e; some { t with indications := v }
  | .patterns => do let e ← Pattern.decode raw; let v ← putAt t.patterns i e; some { t with patterns := v }
  | .curves => do let e ← Curve.decode raw; let v ← putAt t.curves i e; some { t with curves := v }
  | .sensors => do let e ← SensorSetting.decode raw; let v ← putAt t.sensors i e; some { t with sensors := v }
  | .zones => do let e ← ZoneSetting.decode raw; let v ← putAt t.zones i e; some { t with zones := v }
  | .fans => do let e ← FanSetting.decode raw; let v ← putAt t.fans i e; some { t with fans := v }
  | .linkSettings => do let e ← LinkSetting.decode raw; some { t with link := e }

/-- The outcome of checking a write: the tables that result, or the index of the entry at which a check failed. -/
inductive Checked where
  | ok (t : Tables)
  | bad (index : Nat)
  deriving DecidableEq, Repr

/-- Step 4 of R170: each entry in index order. -/
def Tables.putEntries (t : Tables) (id : TableId) (i : Nat) : List (List Byte) → Checked
  | [] => .ok t
  | raw :: rest =>
    match t.putEntry id i raw with
    | none => .bad i
    | some t' => t'.putEntries id (i + 1) rest

/-- The other bay, of lowest number, whose bay map entry names the same slot. -/
def sharesSlot (m : Vector (Option SlotId) 24) (i : BayId) : Option BayId :=
  if m[i].isNone then none else (List.finRange 24).find? fun j => decide (j ≠ i) && decide (m[j] = m[i])

/-- Step 5 of R170 for one named entry: the index at which the constraint fails, if it does. A slot named twice fails at the higher-indexed of the
two entries that name it. -/
def Tables.constraintFailure (t : Tables) (id : TableId) (i : Nat) : Option Nat :=
  match id with
  | .bayMap =>
    if h : i < 24 then (sharesSlot t.bayMap ⟨i, h⟩).map fun j => max i j.val else none
  | .classes => if h : i < 8 then (if t.classes[i].constraint then none else some i) else none
  | .curves => if h : i < 6 then (if t.curves[i].constraint then none else some i) else none
  | .fans => if h : i < 6 then (if t.fans[i].constraint then none else some i) else none
  | _ => none

/-- Steps 4 and 5 of R170 over the named entries. -/
def Tables.checkWrite (t : Tables) (id : TableId) (first : Nat) (entries : List (List Byte)) : Checked :=
  match t.putEntries id first entries with
  | .bad i => .bad i
  | .ok t' =>
    match (List.range' first entries.length).findSome? (t'.constraintFailure id) with
    | some i => .bad i
    | none => .ok t'

/-- Step 2 of R170 (and of R169): the count and the range. -/
def rangeOk (id : TableId) (first count : Nat) : Bool := decide (1 ≤ count ∧ first + count ≤ id.entries)

end Sys2Proof.Machine
end

