-- ==== Sys2Proof/Machine/Image.lean ====
section
/-! DEFINITION. The configuration image: how it is laid out, read and judged (R183 to R185, R198), and how it is written (R192). -/

namespace Sys2Proof.Machine

/-- The marker (R198). -/
def imageMarker : List Byte := [0xC3, 0x5A]
/-- The erased marker written at the start of a save (R198). -/
def erasedMarker : List Byte := [0x00, 0x00]
/-- The layout version the part reads (R183). -/
def imageVersion : Byte := 1
/-- The longest length of table blocks (R183). -/
def imageMaxLength : Nat := 2041

/-- A table block: a table, a first index, and its entries as bytes. -/
structure Block where
  id : TableId
  first : Nat
  entries : List (List Byte)
  deriving DecidableEq, Repr

/-- The blocks that exactly fill the bytes, or `none` (R184). The first argument bounds the number of blocks. -/
def parseBlocks : Nat → List Byte → Option (List Block)
  | _, [] => some []
  | n + 1, id :: first :: count :: rest => do
    let t ← TableId.ofByte id
    let (entries, rest) ← splitEntries t count.toNat rest
    let blocks ← parseBlocks n rest
    some ({ id := t, first := first.toNat, entries } :: blocks)
  | _, _ => none

/-- The image judged as a whole: its blocks, or `none` for a whole fallback (R184). -/
def readImage (m : Memory) : Option (List Block) :=
  let len := be16 (Memory.read m 3) (Memory.read m 4)
  let body := Memory.readBytes m 5 len
  if Memory.readBytes m 0 2 = imageMarker ∧ Memory.read m 2 = imageVersion ∧ len ≤ imageMaxLength ∧
      Memory.readBytes m (5 + len) 2 = crcBytes (Memory.readBytes m 2 3 ++ body) then
    parseBlocks body.length body
  else none

/-- How many bytes a load reads, from offset 0 on: it stops at the first item at fault, the marker, the version or the length, and otherwise reads the blocks and the check (R184).
DEDUCED (log 30): an item is read whole, and the blocks are judged behind the check, in the order of R184's list. -/
def imageReadCount (m : Memory) : Nat :=
  let len := be16 (Memory.read m 3) (Memory.read m 4)
  if Memory.readBytes m 0 2 ≠ imageMarker then 2
  else if Memory.read m 2 ≠ imageVersion then 3
  else if imageMaxLength < len then 5
  else 7 + len

/-- A table put back to its built-in defaults. -/
def Tables.toDefault (t : Tables) : TableId → Tables
  | .bayMap => { t with bayMap := defaultTables.bayMap }
  | .baySettings => { t with baySettings := defaultTables.baySettings }
  | .classes => { t with classes := defaultTables.classes }
  | .limits => { t with limits := defaultTables.limits }
  | .indications => { t with indications := defaultTables.indications }
  | .patterns => { t with patterns := defaultTables.patterns }
  | .curves => { t with curves := defaultTables.curves }
  | .sensors => { t with sensors := defaultTables.sensors }
  | .zones => { t with zones := defaultTables.zones }
  | .fans => { t with fans := defaultTables.fans }
  | .linkSettings => { t with link := defaultTables.link }

/-- The new tables while the blocks are applied: the tables a block has given so far, and those a failed block has returned to their
defaults (R185). -/
structure Loading where
  tables : Tables
  given : List TableId
  failed : List TableId
  deriving DecidableEq, Repr

/-- One block applied (R185): the steps of R170 from range to constraints. -/
def Loading.block (l : Loading) (b : Block) : Loading :=
  if b.id ∈ l.failed then l
  else
    match (if rangeOk b.id b.first b.entries.length then l.tables.checkWrite b.id b.first b.entries else .bad 0) with
    | .ok t => { l with tables := t, given := b.id :: l.given }
    | .bad _ => { l with tables := l.tables.toDefault b.id, failed := b.id :: l.failed }

/-- The blocks applied in the order they stand, from the built-in defaults. -/
def loadBlocks (bs : List Block) : Loading := bs.foldl Loading.block { tables := defaultTables, given := [], failed := [] }

/-- The tables a load gives and, for each table id, whether the load leaves that table at its defaults (R184, R185). -/
def loadTables (memoryFailure : Bool) (m : Memory) : Tables × Vector Bool 11 :=
  match (if memoryFailure then none else readImage m) with
  | none => (defaultTables, Vector.replicate 11 true)
  | some bs =>
    let l := loadBlocks bs
    (l.tables, Vector.ofFn fun i =>
      match TableId.ofByte (u8 i.val) with
      | some t => decide (t ∈ l.failed) || !decide (t ∈ l.given)
      | none => true)

/-- The image of the eleven tables: one block for each, in id order, each the whole table (R192). -/
def imageBody (t : Tables) : List Byte :=
  TableId.all.flatMap fun id => [u8 id.code, 0, u8 id.entries] ++ (t.encodeAll id).flatten

/-- The whole image, from its marker to its check (R198). -/
def imageBytes (t : Tables) : List Byte :=
  let body := imageBody t
  let checked := [imageVersion] ++ u16 body.length ++ body
  imageMarker ++ checked ++ crcBytes checked

/-- The writes of whole pages: one aligned 32-byte page at a time (R192). The first argument bounds the number of pages. -/
def pageWrites : Nat → Nat → List Byte → List SaveWrite
  | 0, _, _ => []
  | n + 1, offset, bytes =>
    if bytes.isEmpty then []
    else { step := .body, offset, bytes := bytes.take 32 } :: pageWrites n (offset + 32) (bytes.drop 32)

/-- The writes of a save, in order: the marker erased; offsets 2 to 31; page after page; the marker (R192). -/
def saveWrites (t : Tables) : List SaveWrite :=
  let image := imageBytes t
  [{ step := .erase, offset := 0, bytes := erasedMarker }, { step := .body, offset := 2, bytes := (image.drop 2).take 30 }] ++
    pageWrites image.length 32 (image.drop 32) ++ [{ step := .marker, offset := 0, bytes := imageMarker }]

end Sys2Proof.Machine
end

