-- ==== Sys2Proof/Machine/Flags.lean ====
section
/-! DEFINITION. The attention set (R176), the codes of states and statuses (chapter 11), and the output pins as views of the state. -/

namespace Sys2Proof.Machine

/-! ### The attention set -/

/-- The place of a kind in the table of R176, which is its bit in an attention kind set (R196). -/
def AttentionKind.place : AttentionKind → Nat
  | .bayState => 0 | .powerFault => 1 | .lockout => 2 | .surpriseRemoval => 3 | .fanFailed => 4 | .sensorFailed => 5
  | .zoneHold => 6 | .zoneShed => 7 | .linkWarning => 8 | .returnMissing => 9 | .configDefault => 10 | .configClamped => 11
  | .saveDone => 12 | .saveFailed => 13 | .restarted => 14

/-- The kind is present. -/
def attentionHas (a : BitVec 15) (k : AttentionKind) : Bool := a.getLsbD k.place

/-- The set with the kind present (R176). -/
def attentionRaise (a : BitVec 15) (k : AttentionKind) : BitVec 15 := a ||| BitVec.twoPow 15 k.place

/-- The set holds at least one kind (R159). -/
def attentionAny (a : BitVec 15) : Bool := decide (a ≠ 0)

/-- The part's attention set holds the kind. -/
def State.has (s : State) (k : AttentionKind) : Bool := attentionHas s.mru.attention k

/-- A block raises a kind in the MRU's attention set (R8, R176). -/
def State.raise (s : State) (k : AttentionKind) : State :=
  { s with mru := { s.mru with attention := attentionRaise s.mru.attention k } }

/-- Raise the kind where the condition holds. -/
def State.raiseIf (s : State) (c : Bool) (k : AttentionKind) : State := if c then s.raise k else s

/-! ### Codes -/

/-- The bay status code (R7). -/
def BayState.code : BayState → Nat
  | .empty => 0 | .settling => 1 | .presentOff => 2 | .queued => 3 | .ramping => 4 | .powered => 5 | .removing => 6 | .parked => 7
  | .powerFault => 8 | .lockedOut => 9

/-- The code of a slot that no part has filled with a bay (R7, R159). -/
def noBay : Byte := 0x0F

/-- The reply statuses (section 9.1). -/
inductive Status where
  | done | busy | unreachable | noTable | badRange | badValue | refused | overLimit | unknownKind
  deriving DecidableEq, Repr

/-- The status codes (R196). -/
def Status.code : Status → Byte
  | .done => 0 | .busy => 1 | .unreachable => 2 | .noTable => 3 | .badRange => 4 | .badValue => 5 | .refused => 6 | .overLimit => 7
  | .unknownKind => 8

/-- Section 11.4. -/
def LinkState.code : LinkState → Nat
  | .disabled => 0 | .listen => 1 | .training => 2 | .aligned => 3 | .silent => 4 | .lost => 5 | .fault => 6

/-- Section 11.4. -/
def PortState.code : PortState → Nat
  | .off => 0 | .probing => 1 | .aligned => 2 | .absent => 3

/-- Section 11.4. -/
def SensorState.code : SensorState → Nat
  | .pending => 0 | .ok => 1 | .failed => 2

/-- Section 11.4. -/
def DriveState.code : DriveState → Nat
  | .absent => 0 | .valid => 1 | .stale => 2

/-- Section 11.4. -/
def FanState.code : FanState → Nat
  | .stopped => 0 | .starting => 1 | .running => 2 | .failed => 3

/-! ### Output pins -/

/-- The bay holds power: RAMPING or POWERED. -/
def BayState.live : BayState → Bool
  | .ramping => true
  | .powered => true
  | _ => false

/-- ENn (R4): asserted exactly when the bay is RAMPING or POWERED. -/
def State.en (s : State) (b : BayId) : Bool := s.bays[b].state.live

/-- LAn is driven low, its light lit (R124). -/
def State.la (s : State) (b : BayId) : Bool := s.len.lineA[b].driven

/-- LBn is driven low, its light lit (R124). -/
def State.lb (s : State) (b : BayId) : Bool := s.len.lineB[b].driven

/-- FANPWMn at the k-th reference count of its cycle: high for the first compare-count counts (R86). -/
def State.fanPwm (s : State) (f : FanId) (k : Nat) : Bool := decide (k % s.fans[f].divisorNow < s.fans[f].compareNow)

end Sys2Proof.Machine
end

