-- ==== Sys2Proof/Machine/Ops.lean ====
section
/-! DEFINITION. The named operations over the bays, the power-up queue, the committed charges and the drive sources (chapters 1 to 3), which the
meanings share: one operation per transition the spec describes. -/

namespace Sys2Proof.Machine

/-! ### Time -/

/-- A deadline is reached: it is present and not after this time (R5). -/
def reached (d : Option Nat) (now : Nat) : Bool :=
  match d with
  | some t => decide (t ≤ now)
  | none => false

/-- At least `ms` have passed since the start, where there is one. -/
def elapsed (start : Option Nat) (ms now : Nat) : Bool := reached (start.map (· + ms)) now

/-- The present time on the 1 ms time base. -/
def State.now (s : State) : Nat := s.tb.now

/-- The uptime at a time, in whole seconds, wrapping from 4294967295 to 0 (R5). -/
def State.uptimeAt (s : State) (t : Nat) : Nat := ((t - s.tb.startTime.getD t) / 1000) % 4294967296

/-- The present uptime. -/
def State.uptime (s : State) : Nat := s.uptimeAt s.now

/-! ### Updates of one element -/

def State.setBay (s : State) (b : BayId) (r : BayRecord) : State := { s with bays := s.bays.set b r }
def State.setInput (s : State) (b : BayId) (i : BayInput) : State := { s with inputs := s.inputs.set b i }
def State.setDrive (s : State) (b : BayId) (d : Drive) : State := { s with drives := s.drives.set b d }
/-- Sensor k after a conversion of this reading of its THERM input: the next conversion of the period is that of the sensor after it (R55). -/
def State.setConversion (s : State) (k : SensorId) (x : Sensor) (reading : Int) : State :=
  { s with sensors := s.sensors.set k x, therm := s.therm.set k reading, converted := k.succ }
def State.setFan (s : State) (f : FanId) (x : Fan) : State := { s with fans := s.fans.set f x }
def State.setShed (s : State) (z : ZoneId) (r : ShedRecord) : State :=
  { s with psq := { s.psq with shed := s.psq.shed.set z r } }
def State.setApplied (s : State) (b : BayId) (a : Applied) : State := { s with smap := s.smap.set b a }

/-! ### What the tables say of a bay -/

/-- The bay settings entry in force (R171). -/
def State.setting (s : State) (b : BayId) : BaySetting := s.tables.baySettings[b]

/-- The zone of the bay, as its entry stands. -/
def State.zoneOf (s : State) (b : BayId) : ZoneId := (s.setting b).zone

/-- The record of the bay's class, as it stands in the drive class table. -/
def State.classOf (s : State) (b : BayId) : DriveClass := s.tables.classes[s.bays[b].cls]

/-- The bay's zone is in HOLD. -/
def State.inHold (s : State) (b : BayId) : Bool := s.zones[s.zoneOf b].hold

/-- Some bay is in a state. -/
def State.anyBay (s : State) (p : BayState → Bool) : Bool := (List.finRange 24).any fun b => p s.bays[b].state

/-! ### Charges and drive sources -/

/-- The sums after a bay's charges are released by the bay's own recorded figures (R36). -/
def Psq.release (p : Psq) (g : GroupId) (c12 c5 : Nat) (wasRamping : Bool) : Psq :=
  { p with
    committed12 := p.committed12 - c12
    committed5 := p.committed5 - c5
    branch := p.branch.set g (p.branch[g] - c12)
    rampingCount := if wasRamping then p.rampingCount - 1 else p.rampingCount }

/-- A drive source made ABSENT, its value and report time cleared (R62). -/
def Drive.clear : Drive := { state := .absent, value := none, reportTime := none }

/-- A drive source made STALE: it loses its report time and keeps what value it has (R62). -/
def Drive.goStale (d : Drive) : Drive := { d with state := .stale, reportTime := none }

/-- The record of a bay whose power is off: no charges and no ramp or PG deadline (R17, R20). -/
def BayRecord.unpowered (r : BayRecord) : BayRecord :=
  { r with charge12 := 0, charge5 := 0, steady12 := 0, rampDeadline := none, pgDeadline := none }

/-- A RAMPING or POWERED bay loses its power: its charges are released (R36) and, on an exit from POWERED, its drive source becomes ABSENT (R63).
The state itself is set by the caller. A bay of any other state is left as it is. -/
def State.exitPower (s : State) (b : BayId) : State :=
  let r := s.bays[b]
  if r.state.live then
    { s with
      psq := s.psq.release (groupOf b) r.charge12 r.charge5 (decide (r.state = .ramping))
      drives := if r.state = .powered then s.drives.set b Drive.clear else s.drives
      bays := s.bays.set b r.unpowered }
  else s

/-! ### The power-up queue -/

/-- An entry's place: after every entry of its own priority and before the first of a higher priority number (R31). -/
def insertEntry (e : QueueEntry) : List QueueEntry → List QueueEntry
  | [] => [e]
  | x :: xs => if x.priority ≤ e.priority then x :: insertEntry e xs else e :: x :: xs

/-- The bay leaves the queue, if it is in it; the rest keep their order (R33). -/
def State.leaveQueue (s : State) (b : BayId) : State :=
  { s with psq := { s.psq with queue := s.psq.queue.filter fun e => e.bay != b } }

/-- Entry to QUEUED (R11): the class is copied, the shed-parked flag cleared, and the bay joins the queue by its priority as read now (R31). -/
def State.enterQueued (s : State) (b : BayId) : State :=
  { s with
    bays := s.bays.set b
      { s.bays[b] with
        state := .queued, cls := (s.setting b).cls, shedParked := false, backoffDeadline := none, drainDeadline := none }
    psq := { s.psq with queue := insertEntry { bay := b, priority := (s.setting b).priority } s.psq.queue } }

/-- Several bays join in one transition, in ascending bay number (R32). -/
def State.enterQueuedAll (s : State) (p : BayId → Bool) : State :=
  ((List.finRange 24).filter p).foldl State.enterQueued s

/-! ### Entries to the other states -/

/-- Entry to EMPTY by a removal (R9): the record is cleared but for the identify flag and the marks, the surprise flag is set when power was on, the
bay leaves the queue and its charges are released; BAY_STATE and, with the flag, SURPRISE_REMOVAL are raised (R8). -/
def State.enterEmpty (s : State) (b : BayId) : State :=
  let on := s.bays[b].state.live
  let s1 := (s.exitPower b).leaveQueue b
  let r := s1.bays[b]
  ((s1.setBay b { BayRecord.initial (s1.setting b).cls with surprise := on, identify := r.identify, marks := r.marks }).raise
    .bayState).raiseIf on .surpriseRemoval

/-- Entry to PARKED; the shed-parked flag is kept. BAY_STATE is raised (R8). -/
def State.enterParked (s : State) (b : BayId) : State :=
  (s.setBay b { s.bays[b] with state := .parked, drainDeadline := none, backoffDeadline := none }).raise .bayState

/-- Drain expiry (R17): a shed-parked bay whose zone is out of HOLD enters QUEUED, any other PARKED. -/
def State.drained (s : State) (b : BayId) : State :=
  if s.bays[b].shedParked && !s.inHold b then s.enterQueued b else s.enterParked b

/-- Entry to REMOVING (R17): power off, and the drain deadline set from the class held in the record; a drain time of 0 expires at once. -/
def State.enterRemoving (s : State) (b : BayId) (shedParked : Bool) : State :=
  let drain := (s.classOf b).drainTime
  let s1 := s.exitPower b
  let s2 := s1.setBay b
    { s1.bays[b] with state := .removing, shedParked := shedParked, drainDeadline := some (s.now + drain * 100) }
  if drain = 0 then s2.drained b else s2

/-- Entry to POWER_FAULT (R20), passing on to LOCKED_OUT where the retry count is at the limit (R22). -/
def State.enterPowerFault (s : State) (b : BayId) : State :=
  let s1 := ((s.exitPower b).raise .powerFault).raise .bayState
  let r := s1.bays[b]
  if r.retryCount < s1.tables.limits.retryLimit then
    s1.setBay b
      { r with
        state := .powerFault
        retryCount := r.retryCount + 1
        backoffDeadline := some (s.now + s1.tables.limits.backoffBase * 1000 * 2 ^ r.retryCount) }
  else (s1.setBay b { r with state := .lockedOut }).raise .lockout

/-! ### The shed engine -/

/-- The bay may be shed from zone z: its entry names z, it is POWERED and its shed rank is not 0 (R51). -/
def State.sheddable (s : State) (z : ZoneId) (b : BayId) : Bool :=
  decide (s.zoneOf b = z) && decide (s.bays[b].state = .powered) && decide ((s.setting b).shedRank ≠ 0)

/-- The candidate of zone z: the lowest shed rank and, among equals, the higher bay number (R51). -/
def State.shedCandidate (s : State) (z : ZoneId) : Option BayId :=
  ((List.finRange 24).filter (s.sheddable z)).foldl
    (fun best b =>
      match best with
      | none => some b
      | some a => if (s.setting b).shedRank ≤ (s.setting a).shedRank then some b else some a)
    none

/-- A shed of bay b from zone z (R51): to REMOVING with the flag set, ZONE_SHED raised, and the record in INTERVAL from now. -/
def State.shedBay (s : State) (z : ZoneId) (b : BayId) : State :=
  ((s.raise .zoneShed).enterRemoving b true).setShed z (.interval s.now)

/-- A shed falls due (R50): the candidate is shed, or the record enters OWED. -/
def State.shedDue (s : State) (z : ZoneId) : State :=
  match s.shedCandidate z with
  | some b => s.shedBay z b
  | none => s.setShed z .owed

/-- A zone in OWED sheds in the transition that gives it a candidate (R52). -/
def State.shedOwed (s : State) (z : ZoneId) : State :=
  if s.psq.shed[z] = .owed then
    match s.shedCandidate z with
    | some b => s.shedBay z b
    | none => s
  else s

/-! ### Ramp end and grant -/

/-- Ramp end (R47, R14): RAMPING to POWERED. The charge falls to the recorded steady figure, the ramping count falls, and the drive source starts STALE
with no value (R63). An owed shed of the bay's zone is taken in the same transition (R52). -/
def State.rampEnd (s : State) (b : BayId) : State :=
  let r := s.bays[b]
  let drop := r.charge12 - r.steady12
  let g := groupOf b
  let s1 : State :=
    { s with
      psq := { s.psq with
        committed12 := s.psq.committed12 - drop
        branch := s.psq.branch.set g (s.psq.branch[g] - drop)
        rampingCount := s.psq.rampingCount - 1 }
      bays := s.bays.set b
        { r with state := .powered, charge12 := r.steady12, rampDeadline := none, pgDeadline := none, retryCount := 0 }
      drives := s.drives.set b { state := .stale, value := none, reportTime := none } }
  (s1.raise .bayState).shedOwed (s.zoneOf b)

/-- The grant of bay b (R13, R46). -/
def State.grant (s : State) (b : BayId) : State :=
  let c := s.classOf b
  let g := groupOf b
  let s1 := s.leaveQueue b
  { s1 with
    bays := s1.bays.set b
      { s1.bays[b] with
        state := .ramping
        charge12 := c.inrush12
        charge5 := c.steady5
        steady12 := c.steady12
        rampDeadline := some (s.now + c.rampTime * 100)
        pgDeadline := some (s.now + s.tables.limits.pgTimeout * 100)
        lastGrant := some s.uptime }
    psq := { s1.psq with
      committed12 := s1.psq.committed12 + c.inrush12
      committed5 := s1.psq.committed5 + c.steady5
      branch := s1.psq.branch.set g (s1.psq.branch[g] + c.inrush12)
      rampingCount := s1.psq.rampingCount + 1
      stagger := some s.now } }

/-! ### Admission -/

/-- The link is lost for power, for the drive sources and for cooling: LOST, or FAULT with the lost latch set (R48, R65, R82). -/
def State.linkLost (s : State) : Bool :=
  match s.liu.link with
  | .lost => true
  | .fault => s.liu.lostLatch
  | _ => false

/-- Condition 2 of R40: the timer stands expired, or the time since its start is at or above the stagger in force (R41). -/
def State.staggerPassed (s : State) : Bool :=
  match s.psq.stagger with
  | none => true
  | some t => decide (t + s.tables.limits.stagger * 10 ≤ s.now)

/-- The started stagger timer expires: its interval has passed, at a tick after its start (R41). A start at this very moment, by a grant behind which an expiry of the start
before it still waits, is not yet expired. -/
def State.staggerExpires (s : State) : Bool :=
  match s.psq.stagger with
  | some start => decide (start < s.now) && s.staggerPassed
  | none => false

/-- Conditions 1, 2, 7 and 8 of R40, which concern the PSQ as a whole. -/
def State.mayGrant (s : State) : Bool :=
  decide (s.psq.rampingCount < s.tables.limits.maxRamps) && s.staggerPassed && (s.tables.limits.autonomous || !s.linkLost) &&
    !s.psq.quiescePending

/-- Conditions 3 to 6 of R40, which concern the candidate. -/
def State.fits (s : State) (b : BayId) : Bool :=
  decide (s.psq.committed12 + (s.classOf b).inrush12 ≤ s.tables.limits.rail12) &&
  decide (s.psq.committed5 + (s.classOf b).steady5 ≤ s.tables.limits.rail5) &&
  decide (s.psq.branch[groupOf b] + (s.classOf b).inrush12 ≤ s.tables.limits.branch[groupOf b]) &&
  !s.inHold b

/-- The bay that this consideration grants, if any: the head in STRICT order (R42), the first entry that fits in FIT_FIRST (R43). -/
def State.choice (s : State) : Option BayId :=
  if s.mayGrant then
    match s.tables.limits.orderMode, s.psq.queue with
    | .strict, [] => none
    | .strict, e :: _ => if s.fits e.bay then some e.bay else none
    | .fitFirst, q => (q.find? fun e => s.fits e.bay).map (·.bay)
  else none

/-- Choices one after the other, as many as the first argument allows: after a grant the consideration goes on only with a stagger of 0 (R44). -/
def State.considerUpTo : Nat → State → State
  | 0, s => s
  | n + 1, s =>
    match s.choice with
    | none => s
    | some b => if s.tables.limits.stagger = 0 then State.considerUpTo n (s.grant b) else s.grant b

/-- A consideration of the queue (R44). None is made from a controller reset until restart completion; 24 bays bound the grants. -/
def State.consider (s : State) : State := if s.phase = .running then State.considerUpTo 24 s else s

/-- A consideration, where the transition is one of the events of R44. -/
def State.considerIf (s : State) (c : Bool) : State := if c then s.consider else s

end Sys2Proof.Machine
end

