-- ==== Sys2Proof/Machine/LinkOps.lean ====
section
/-! DEFINITION. The named operations of the LIU and the SMAP (chapters 7 and 8): the two outgoing lanes, the replies, the returns, the outstanding
sweep list, the downstream port, and the link's loss. -/

namespace Sys2Proof.Machine

/-! ### The return lane -/

/-- The link states whose return lane carries returns, replies and FILL (R149). -/
def LinkState.carriesFrames : LinkState → Bool
  | .aligned => true
  | .silent => true
  | _ => false

/-- The free return lane takes the oldest pending return, else the head reply, else a FILL (R149). -/
def Liu.nextUp (l : Liu) : Liu :=
  match l.pendingReturns, l.replyQueue with
  | r :: rs, _ => { l with upLane := .ret r, pendingReturns := rs }
  | [], q :: qs => { l with upLane := .reply q, replyQueue := qs }
  | [], [] => { l with upLane := .fill }

/-- A lane that is sending nothing is free at once when a claimant appears (R149). -/
def Liu.kickUp (l : Liu) : Liu := if l.link.carriesFrames && decide (l.upLane = .idle) then l.nextUp else l

/-- A reply becomes ready: it joins the reply queue at its tail, or is discarded (R150). -/
def Liu.pushReply (l : Liu) (r : ReplyFrame) : Liu :=
  if l.link.carriesFrames && decide (l.replyQueue.length < Config.replyQueueMax) then
    Liu.kickUp { l with replyQueue := l.replyQueue ++ [r] }
  else l

/-- A return becomes ready: it joins the pending returns, or is discarded (R149). -/
def Liu.pendReturn (l : Liu) (r : ReturnFrame) : Liu :=
  if l.link.carriesFrames && decide (l.pendingReturns.length < Config.pendingReturnsMax) then
    Liu.kickUp { l with pendingReturns := l.pendingReturns ++ [r] }
  else l

/-- The chain position as a byte; 0xFF is absent (section 11.4). -/
def positionByte : Option (Fin 4) → Byte
  | some p => u8 p.val
  | none => 0xFF

/-- The part makes a reply of its own ready, its source the chain position at that moment (R167). -/
def State.reply (s : State) (tag : Byte) (status : Status) (payload : List Byte) : State :=
  { s with liu := s.liu.pushReply { source := positionByte s.liu.position, tag, status := status.code, payload, restart := false } }

/-! ### The downstream lane and port -/

/-- The free downstream lane takes the next frame waiting to be forwarded, else a FILL, while the upstream link is ALIGNED; else it goes
quiet (R146). -/
def Liu.nextDown (l : Liu) : Liu :=
  if l.link = .aligned then
    match l.forwardQueue with
    | f :: fs => { l with downLane := .frame f, forwardQueue := fs }
    | [] => { l with downLane := .fill }
  else { l with downLane := .idle }

/-- A quiet lane of an ALIGNED port carries frames again once the upstream link is ALIGNED (R146). -/
def Liu.kickDown (l : Liu) : Liu :=
  if decide (l.link = .aligned) && decide (l.port = .aligned) && decide (l.downLane = .idle) then l.nextDown else l

/-- A frame waits to be forwarded, in the order it was taken (R146). -/
def Liu.forward (l : Liu) (f : DownFrame) : Liu := Liu.kickDown { l with forwardQueue := l.forwardQueue ++ [f] }

/-- The downstream port goes to OFF, its lane idle and its waiting frames discarded (R144, R146). -/
def Liu.portOff (l : Liu) : Liu :=
  { l with
    port := .off, probeStart := none, probeCount := 0, probeAnswer := none, retryDue := none, returnWatch := none
    downLane := .idle, forwardQueue := [] }

/-- The downstream port enters ABSENT; a probe retry falls due 1 s later, and the frames still waiting are discarded (R145, R146). -/
def Liu.portAbsent (l : Liu) (now : Nat) : Liu :=
  { l.portOff with port := .absent, retryDue := some (now + Config.probeRetryMs) }

/-- A probe starts (R145): training words with the hop of the own position plus 1. -/
def Liu.startProbe (l : Liu) (now : Nat) : Liu :=
  { l.portOff with
    port := .probing
    probeStart := some now
    downLane := .probing ((l.position.map (·.val)).getD 0 + 1) }

/-- The downstream port becomes ALIGNED: it begins to send FILL, and the return watch starts (R145). -/
def Liu.portAligned (l : Liu) (now : Nat) : Liu :=
  Liu.kickDown { l with port := .aligned, probeStart := none, probeCount := 0, probeAnswer := none, downLane := .idle, returnWatch := some now }

/-- The pending returns and the reply queue are emptied, and the return lane goes idle (R138, R139, R143). -/
def Liu.clearUp (l : Liu) : Liu := { l with pendingReturns := [], replyQueue := [], upLane := .idle }

/-! ### Returns -/

/-- A bay's temperature-wanted flag: its drive source is STALE (R67). -/
def State.temperatureWanted (s : State) (b : BayId) : Bool := decide (s.drives[b].state = .stale)

/-- A bay's byte in a return slot: its status code, and its temperature-wanted flag in bit 7 (R196). -/
def State.slotByte (s : State) (b : BayId) : Byte :=
  u8 (s.bays[b].state.code + if s.temperatureWanted b then 128 else 0)

/-- The part's own slots of a return, filled (R160). -/
def State.fillSlots (s : State) (slots : Slots) : Slots :=
  (List.finRange 24).foldl
    (fun v b =>
      match s.tables.bayMap[b] with
      | some k => v.set k (s.slotByte b)
      | none => v)
    slots

/-- A return that the part originates (R159). -/
def State.originated (s : State) (number : Byte) : ReturnFrame :=
  { number, attention := attentionAny s.mru.attention, originator := positionByte s.liu.position
    slots := s.fillSlots (Vector.replicate 128 noBay) }

/-- The part originates a return, which becomes pending (R159). -/
def State.originate (s : State) (number : Byte) : State :=
  { s with liu := s.liu.pendReturn (s.originated number) }

/-- The oldest entry of the outstanding sweep list is given up (R158): removed, RETURN_MISSING raised, and a return originated for it. -/
def State.giveUp (s : State) : State :=
  match s.liu.outstanding with
  | [] => s
  | e :: rest => (State.raise { s with liu := { s.liu with outstanding := rest } } .returnMissing).originate e.number

/-- The oldest n entries are given up, oldest first. -/
def State.giveUpMany : Nat → State → State
  | 0, s => s
  | n + 1, s => State.giveUpMany n s.giveUp

/-- The place in the list of the entry with a sweep number. -/
def outstandingPlace (number : Byte) (l : List Outstanding) : Option Nat := l.findIdx? fun e => e.number == number

/-- The first step of R158: an entry with this number, and the older ones, are given up. -/
def State.giveUpThrough (s : State) (number : Byte) : State :=
  match outstandingPlace number s.liu.outstanding with
  | some k => State.giveUpMany (k + 1) s
  | none => s

/-- The second step of R158: the oldest entry of a full list is given up. -/
def State.makeRoom (s : State) : State := if s.liu.outstanding.length < Config.outstandingMax then s else s.giveUp

/-- A new entry is appended, in the three steps of R158. -/
def State.appendOutstanding (s : State) (number : Byte) : State :=
  let s2 := (s.giveUpThrough number).makeRoom
  { s2 with
    liu := { s2.liu with outstanding := s2.liu.outstanding ++ [{ number, deadline := s.now + Config.outstandingMs }] } }

/-! ### Sweeps -/

/-- The condition code of a sweep slot byte: bits 0 to 3 (R196). -/
def sweepCondition (b : Byte) : Fin 16 := ⟨b.toNat % 16, by omega⟩

/-- The activity flag of a sweep slot byte: bit 7 (R196). -/
def sweepActive (b : Byte) : Bool := b.getLsbD 7

/-- A bay's applied state after a sweep is applied (R155). -/
def Applied.sweep (a : Applied) (slot : Option SlotId) (slots : Slots) (now : Nat) : Applied :=
  match slot with
  | some k =>
    { condition := sweepCondition slots[k]
      stretch := if sweepActive slots[k] then some (now + Config.stretchMs) else a.stretch }
  | none => { a with condition := 0 }

/-- The SMAP applies a sweep, and the link-lost mark is cleared (R155, R113). -/
def State.applySweep (s : State) (slots : Slots) : State :=
  { s with
    smap := Vector.ofFn fun b => (s.smap[b]).sweep s.tables.bayMap[b] slots s.now
    len := { s.len with linkLost := false } }

/-! ### The link's states -/

/-- The link becomes lost (R138): the drive sources of POWERED bays become STALE (R65), the link-lost mark is set (R113), the applied sweep is
cleared (R156), and the queue is considered (R48). -/
def State.becomeLost (s : State) : State :=
  State.consider
    { s with
      drives := Vector.ofFn fun b => if s.bays[b].state = .powered then (s.drives[b]).goStale else s.drives[b]
      len := { s.len with linkLost := true }
      smap := Vector.replicate 24 Applied.initial }

/-- The silence has lasted as long as the autonomy timeout in force (R137, R139). -/
def State.autonomyPassed (s : State) : Bool := elapsed s.liu.silenceStart (s.tables.link.autonomyTimeout * 1000) s.now

/-- Entry to FAULT (R139). The latch is set in the entry transition where the time has already passed. -/
def State.enterFault (s : State) : State :=
  let latch := s.autonomyPassed
  let s1 : State :=
    { s with
      liu := { s.liu.clearUp.portOff with
        link := .fault, outstanding := [], alternation := 0, trainWord := none, frameTaken := false, lostLatch := latch } }
  if latch then s1.becomeLost else s1

/-- Entry to TRAINING with the word that brought the link there (R135); from ALIGNED, SILENT or LOST it is a link reset (R143). -/
def Liu.enterTraining (l : Liu) (kind : TrainKind) (hop : BitVec 4) : Liu :=
  { l.clearUp.portOff with
    link := .training, errorCount := 0, outstanding := [], lostLatch := false, alternation := 0, trainWord := some (kind, hop)
    frameTaken := false }

/-- The answer to a training word: one of the same kind and hop on the return lane (R135). -/
def Liu.answer (l : Liu) (kind : TrainKind) (hop : BitVec 4) : Liu :=
  { l with answered := some (kind, hop), upLane := .training kind hop }

/-- Entry to ALIGNED from TRAINING (R136). -/
def Liu.enterAligned (l : Liu) (hop : BitVec 4) (now : Nat) : Liu :=
  Liu.startProbe
    { l with
      link := .aligned
      position := if h : hop.toNat < 4 then some ⟨hop.toNat, h⟩ else l.position
      silenceStart := some now
      alternation := 0
      trainWord := none
      frameTaken := false
      upLane := .fill }
    now

/-- Return to LISTEN from TRAINING (R135): count and hop are discarded, the silence start is kept. -/
def Liu.interruptTraining (l : Liu) : Liu :=
  { l.clearUp.portOff with link := .listen, alternation := 0, trainWord := none }

/-- The word that takes the link to TRAINING from another state; a hop above 3 takes it to FAULT at once, unanswered (R135, R139). A link that stops
being lost is a consideration (R138). -/
def State.startTraining (s : State) (kind : TrainKind) (hop : BitVec 4) : State :=
  let s1 : State := { s with liu := s.liu.enterTraining kind hop }
  if 3 < hop.toNat then
    let s2 := s1.enterFault
    s2.considerIf (s.linkLost && !s2.linkLost)
  else State.considerIf { s1 with liu := s1.liu.answer kind hop } s.linkLost

/-- A further training word in TRAINING (R135). -/
def State.continueTraining (s : State) (kind : TrainKind) (hop : BitVec 4) : State :=
  if 3 < hop.toNat then s.enterFault
  else
    let count :=
      match s.liu.trainWord with
      | some (k, h) => if k ≠ kind ∧ h = hop then s.liu.alternation + 1 else 0
      | none => 0
    let l := { s.liu with alternation := count, trainWord := some (kind, hop) }.answer kind hop
    { s with liu := if 8 ≤ count then l.enterAligned hop s.now else l }

/-! ### Frames on the upstream input -/

/-- The error count's move (R141), with LINK_WARNING where it rises from below 96 to 96 or above. -/
def State.moveErrorCount (s : State) (count : Nat) : State :=
  State.raiseIf { s with liu := { s.liu with errorCount := count } }
    (decide (s.liu.errorCount < Config.errorWarning) && decide (Config.errorWarning ≤ count)) .linkWarning

/-- A probe that waited while the upstream link was not ALIGNED starts at the moment it is (R145). -/
def Liu.releaseProbe (l : Liu) (now : Nat) : Liu :=
  if decide (l.port = .absent) && reached l.retryDue now then l.startProbe now else l

/-- A frame of the upstream input can be taken: the link is ALIGNED or SILENT (R137). -/
def State.takesFrames (s : State) : Bool := s.liu.link.carriesFrames

/-- What a valid frame on the upstream input does whatever its kind: taken in ALIGNED or SILENT it returns the link to ALIGNED, sets the silence
start, works the error count down by one and, coming out of SILENT, lets a waiting probe start (R137, R141, R145). In TRAINING its start word ends the
training (R135); in every other state it is ignored. -/
def State.acceptFrame (s : State) : State :=
  match s.liu.link with
  | .training => { s with liu := s.liu.interruptTraining }
  | .aligned =>
    State.moveErrorCount { s with liu := { s.liu with silenceStart := some s.now, frameTaken := true } } (s.liu.errorCount - 1)
  | .silent =>
    State.moveErrorCount
      { s with liu := Liu.releaseProbe { s.liu with link := .aligned, silenceStart := some s.now, frameTaken := true } s.now }
      (s.liu.errorCount - 1)
  | _ => s

/-- After a taken frame the quiet downstream lane carries frames again (R146). -/
def State.resumeDown (s : State) : State := { s with liu := s.liu.kickDown }

end Sys2Proof.Machine
end

