-- ==== Sys2Proof/Machine/Restart.lean ====
section
/-! DEFINITION. The controller reset in every block (R189), the load's completion (R187), the end of a RESTART (R178), and the quiesce gate (R49). -/

namespace Sys2Proof.Machine

/-! ### The controller reset -/

/-- What a controller reset does to a bay (R26). -/
def BayRecord.onReset (r : BayRecord) : BayRecord :=
  match r.state with
  | .queued => { r with state := .presentOff }
  | .ramping => { r.unpowered with state := .presentOff }
  | .removing => { r with state := .parked, drainDeadline := none }
  | .powerFault => { r with state := .presentOff, backoffDeadline := none }
  | _ => r

/-- The sum over those bays that hold power and meet the condition (R35). -/
def liveSum (bays : Vector BayRecord 24) (f : BayRecord → Nat) (p : BayId → Bool) : Nat :=
  ∑ b : BayId, if bays[b].state.live && p b then f bays[b] else 0

/-- The number of bays now RAMPING (R36). -/
def rampingTotal (bays : Vector BayRecord 24) : Nat := ∑ b : BayId, if bays[b].state = .ramping then 1 else 0

/-- A fan's supervision started afresh (R95): a fan with a duty is STARTING, its grace to start at restart completion; one without is STOPPED. -/
def Fan.onReset (f : Fan) : Fan :=
  { f with
    state := if f.duty = 0 then .stopped else .starting
    grace := none, lowCount := 0, goodCount := 0, pulses := 0, skipWindow := false }

/-- A line at a controller reset (R129): nothing shown; an ENGINE line goes dark, a MANUAL line holds its level. -/
def Line.onReset (l : Line) : Line :=
  { l with shown := none, pattern := none, offset := 0, engine := false, driven := l.manual.getD false }

/-- The write of a save that has been sent and not yet been acknowledged, if there is one (R192, R193). -/
def Cmp.sentWrite (c : Cmp) : Option SaveWrite :=
  match c.state with
  | .saving (w :: _) => if c.waitStart.isSome then some w else none
  | _ => none

/-- A write already sent completes inside the memory (R193). -/
def Cmp.landSent (c : Cmp) : Memory :=
  match c.sentWrite with
  | some w => Memory.writeBytes c.mem w.offset w.bytes
  | none => c.mem

/-- From when on the memory acknowledges its address, at a reset: it completes a write already sent first, in an internal write cycle (R192, R193), whose length is a free value
(log 42). -/
def Cmp.answersAfterReset (c : Cmp) (count : Nat) : Option Nat :=
  match c.state, c.waitStart with
  | .saving _, some start => c.answersFrom.map (max · (start + (Config.writeCycleMs count).val))
  | _, _ => c.answersFrom

/-- The controller reset: one transition in every block (R189). `byPin` says that RSTn is driven low, so that the load waits for RSTn to return high;
at the end of a RESTART the load begins at once. -/
def State.controllerReset (s : State) (byPin : Bool) : State :=
  let bays : Vector BayRecord 24 := Vector.ofFn fun b => (s.bays[b]).onReset
  { s with
    phase := if byPin then .resetHold else .resetLoad
    rstn := if byPin then false else s.rstn
    tb := { s.tb with nextLight := none, nextPeriod := none }
    bays := bays
    inputs := Vector.ofFn fun b => { s.inputs[b] with settleStart := none }
    psq := { s.psq with
      queue := []
      committed12 := liveSum bays (·.charge12) fun _ => true
      committed5 := liveSum bays (·.charge5) fun _ => true
      branch := Vector.ofFn fun g => liveSum bays (·.charge12) fun b => groupOf b == g
      rampingCount := 0
      quiescePending := false
      shed := Vector.replicate 3 .idle }
    converted := 0
    drives := Vector.ofFn fun b => if bays[b].state = .powered then (s.drives[b]).goStale else Drive.clear
    zones := Vector.ofFn fun z => { s.zones[z] with failedFans := 0 }
    fans := Vector.ofFn fun f => (s.fans[f]).onReset
    smap := Vector.replicate 24 Applied.initial
    len := { s.len with
      lineA := Vector.ofFn fun b => (s.len.lineA[b]).onReset
      lineB := Vector.ofFn fun b => (s.len.lineB[b]).onReset }
    liu := Liu.initial
    mru := { state := .idle, attention := attentionRaise 0 .restarted, saveInProgress := false }
    cmp := { s.cmp with
      state := .loading
      mem := s.cmp.landSent
      waitStart := if byPin then none else some s.now
      readStart := none
      answersFrom := s.cmp.answersAfterReset s.freeCount }
    freeCount := s.freeCount + 1 }

/-! ### The end of a RESTART -/

/-- The MRU makes the RESTART's reply ready and enters SENDING (R178). A reply that is discarded when it is made ready ends the RESTART at once. -/
def State.finishRestart (s : State) (tag : Byte) : State :=
  if s.liu.link.carriesFrames && decide (s.liu.replyQueue.length < Config.replyQueueMax) then
    { s with
      mru := { s.mru with state := .sending tag }
      liu := s.liu.pushReply
        { source := positionByte s.liu.position, tag, status := Status.done.code, payload := [], restart := true } }
  else s.controllerReset false

/-- The LIU's queues have been emptied: a RESTART whose reply was among them ends, and the controller reset follows (R178, R179). -/
def State.replyLost (s : State) : State :=
  match s.mru.state with
  | .sending _ => s.controllerReset false
  | _ => s

/-- Quiesce is reached: the flag is set and no bay is RAMPING or REMOVING (R49). -/
def State.quiesced (s : State) : Bool :=
  s.psq.quiescePending && !s.anyBay fun b => decide (b = .ramping) || decide (b = .removing)

/-- The PSQ reports quiesce reached to a QUIESCING MRU, which makes its reply ready (R49, R178). -/
def State.reportQuiesce (s : State) : State :=
  match s.mru.state with
  | .quiescing tag _ => if s.quiesced then s.finishRestart tag else s
  | _ => s

/-- The end of a bay transition: the consideration of R44, where it is one of its events, and quiesce reached (R49). -/
def State.afterBay (s : State) (considers : Bool) : State := (s.considerIf considers).reportQuiesce

/-! ### The load's completion -/

/-- A limits record raised to the committed charges (R186). -/
def Limits.clamp (l : Limits) (p : Psq) : Limits :=
  { l with
    rail12 := max l.rail12 p.committed12
    rail5 := max l.rail5 p.committed5
    branch := Vector.ofFn fun g => max l.branch[g] p.branch[g] }

/-- The PWM divisor of a frequency setting: 250000 divided by it, truncated (R86). -/
def pwmDivisor (frequency : Nat) : Nat := 250000 / frequency

/-- The compare count of a duty: duty times N over 1000, truncated (R86). -/
def pwmCompare (duty divisor : Nat) : Nat := duty * divisor / 1000

/-- The divisor and the compare count loaded anew from a frequency and the fan's present duty (R77, R86). -/
def Fan.loadPwm (f : Fan) (frequency : Nat) : Fan :=
  { f with divisor := pwmDivisor frequency, compare := pwmCompare f.duty (pwmDivisor frequency) }

/-- A bay's class at a load completion or a bay settings write: taken from the settings while the bay is neither RAMPING nor POWERED (R6). -/
def BayRecord.adoptClass (r : BayRecord) (c : ClassId) : BayRecord := if r.state.live then r else { r with cls := c }

/-- The eleven tables installed with the clamp, the flags and the load's attention kinds; the CMP enters IDLE (R187). -/
def State.install (s : State) (memoryFailure : Bool) : State :=
  let (tables, defaulted) := loadTables memoryFailure s.cmp.mem
  let limits := tables.limits.clamp s.psq
  let clamped := decide (limits ≠ tables.limits)
  let tables := { tables with limits }
  ((State.raiseIf
    { s with
      tables := tables
      bays := Vector.ofFn fun b => (s.bays[b]).adoptClass tables.baySettings[b].cls
      cmp := { s.cmp with
        state := .idle
        waitStart := none
        readStart := none
        defaulted := defaulted
        clamped := Vector.ofFn fun i => clamped && decide (i.val = TableId.code .limits) } }
    (decide (defaulted ≠ Vector.replicate 11 false)) .configDefault).raiseIf clamped .configClamped)

/-- The Timebase aligned to a completion: light ticks every 10 ms and period ends every 1 s from it (R188, R189). -/
def Timebase.align (t : Timebase) : Timebase :=
  { t with nextLight := some (t.now + Config.lightTickMs), nextPeriod := some (t.now + Config.controlPeriodMs) }

/-- The upstream link enters LISTEN (R134). -/
def Liu.enterListen (l : Liu) (now : Nat) : Liu := { l with link := .listen, silenceStart := some now }

/-- The light engine starts: pattern clock 0, and no pattern written since a light tick (R128, R129). -/
def Len.start (l : Len) : Len := { l with clock := 0, written := Vector.replicate 16 false }

/-- The first samples of an input, taken at the start of the part (R1, R26). -/
def BayInput.firstSample (i : BayInput) : BayInput :=
  { i with presLast := some i.presPin, pgLast := some i.pgPin, fltLast := some i.fltPin }

/-- The start of the part (R188): what a power-on load's completion does beside installing the tables. -/
def State.startPart (s : State) : State :=
  let seated (b : BayId) : Bool := s.inputs[b].presPin && decide (s.bays[b].state = .empty)
  { s with
    phase := .running
    tb := { s.tb.align with startTime := some s.now }
    converted := 0
    inputs := Vector.ofFn fun b =>
      { (s.inputs[b]).firstSample with settleStart := if seated b then some s.now else s.inputs[b].settleStart }
    bays := Vector.ofFn fun b => if seated b then { s.bays[b] with state := .settling } else s.bays[b]
    fans := Vector.ofFn fun f =>
      { (s.fans[f]).loadPwm s.tables.fans[f].pwmFrequency with
        compare := pwmDivisor s.tables.fans[f].pwmFrequency, grace := some s.now, pulses := 0 }
    len := s.len.start
    liu := s.liu.enterListen s.now }

/-- The bays that restart completion enqueues (R34). -/
def State.reenqueued (s : State) (b : BayId) : Bool :=
  (decide (s.bays[b].state = .presentOff) && decide ((s.setting b).policy = .auto)) ||
  (decide (s.bays[b].state = .parked) && s.bays[b].shedParked) ||
  (decide (s.bays[b].state = .powerFault) && reached s.bays[b].backoffDeadline s.now)

/-- A fan at restart completion (R95): the grace of a turning fan starts, and N is recomputed where the reloaded frequency differs. -/
def Fan.onRestart (f : Fan) (old new now : Nat) : Fan :=
  let f1 := if old = new then f else f.loadPwm new
  { f1 with grace := if f.state = .starting then some now else none, pulses := 0 }

/-- Restart completion (R189): what the completion of a controller reset's load does beside installing the tables. `old` is the fan table from which the
divisors were computed. -/
def State.finishReset (s : State) (old : Vector FanSetting 6) : State :=
  let s1 : State :=
    { s with
      phase := .running
      tb := s.tb.align
      converted := 0
      inputs := Vector.ofFn fun b =>
        { s.inputs[b] with settleStart := if s.bays[b].state = .settling then some s.now else none }
      psq := { s.psq with
        stagger := some s.now
        shed := Vector.ofFn fun z => if s.zones[z].shed then .delay s.now else s.psq.shed[z] }
      fans := Vector.ofFn fun f => (s.fans[f]).onRestart old[f].pwmFrequency s.tables.fans[f].pwmFrequency s.now
      len := s.len.start
      liu := s.liu.enterListen s.now }
  (s1.enterQueuedAll s1.reenqueued).consider

end Sys2Proof.Machine
end

