-- ==== Sys2Proof/Machine/Bays.lean ====
section
/-! DEFINITION. The bay family (chapter 1): the qualified input events and the expiries of the bay's timers. An event that does not arise in the bay's state
leaves the part as it is (log 9). -/

namespace Sys2Proof.Machine

/-- The BSV samples its inputs: from the start of the part on, through a controller reset and its load (R1, R26). -/
def State.sampling (s : State) : Bool :=
  match s.phase with
  | .running => true
  | .resetHold => true
  | .resetLoad => true
  | _ => false

/-- The input after raw samples of PRES that read so. -/
def BayInput.samplePres (i : BayInput) (level : Bool) : BayInput := { i with presPin := level, presLast := some level }

/-- The removal count is kept in this state (R3). -/
def BayState.removable : BayState → Bool
  | .empty => false
  | .settling => false
  | _ => true

/-- QUALIFIED_INSERTION (R2): EMPTY to SETTLING, the insertion debounce starting; from a controller reset until load completion it starts at load completion (R26). Before the
start of the part no sample is taken, and only the pin's level changes. -/
def execQualifiedInsertion (b : BayId) (s : State) : Host.Outcome State Fault Refusal :=
  if !s.sampling then .next (s.setInput b { s.inputs[b] with presPin := true })
  else if s.bays[b].state = .empty then
    .next
      ((s.setInput b
        { (s.inputs[b]).samplePres true with
          removalCount := 0, settleStart := if s.phase = .running then some s.now else none }).setBay b
        { s.bays[b] with state := .settling })
  else .next s

/-- SETTLING_BOUNCE (R2): back to EMPTY, the debounce abandoned, no other field changed. -/
def execSettlingBounce (b : BayId) (s : State) : Host.Outcome State Fault Refusal :=
  if !s.sampling then .next (s.setInput b { s.inputs[b] with presPin := false })
  else if s.bays[b].state = .settling then
    .next
      ((s.setInput b { (s.inputs[b]).samplePres false with removalCount := 0, settleStart := none }).setBay b
        { s.bays[b] with state := .empty })
  else .next s

/-- INSERTION_DEBOUNCE_EXPIRY (R2, R10): the policy takes the bay to QUEUED or to PRESENT_OFF. -/
def execInsertionDebounceExpiry (b : BayId) (s : State) : Host.Outcome State Fault Refusal :=
  if s.phase = .running ∧ s.bays[b].state = .settling ∧
      elapsed s.inputs[b].settleStart (s.tables.limits.insertionDebounce * 10) s.now then
    let s1 := s.setInput b { s.inputs[b] with settleStart := none }
    match (s.setting b).policy with
    | .auto => .next ((s1.enterQueued b).afterBay true)
    | .manual => .next (s1.setBay b { s1.bays[b] with state := .presentOff })
  else .next s

/-- QUALIFIED_REMOVAL (R3): in every state but EMPTY and SETTLING the bay enters EMPTY (R12, R15, R16, R18, R19, R21, R22), which is a consideration where it
releases charges (R44). -/
def execQualifiedRemoval (b : BayId) (s : State) : Host.Outcome State Fault Refusal :=
  if !s.sampling then .next (s.setInput b { s.inputs[b] with presPin := false })
  else if s.bays[b].state.removable then
    .next
      (((s.setInput b { (s.inputs[b]).samplePres false with removalCount := 0, settleStart := none }).enterEmpty b).afterBay
        s.bays[b].state.live)
  else .next s

/-- The input at an FLT assertion: the level asserted by the last two samples (R1) or, where it stands asserted already, as it is, since R15 then reads the level
and no sample (log 14). -/
def BayInput.assertFlt (i : BayInput) : BayInput := if i.flt then i else { i with fltPin := true, fltLast := some true, flt := true }

/-- QUALIFIED_FLT_ASSERTION (R1, R15, R16): a RAMPING or POWERED bay enters POWER_FAULT. -/
def execQualifiedFltAssertion (b : BayId) (s : State) : Host.Outcome State Fault Refusal :=
  if !s.sampling then .next (s.setInput b { s.inputs[b] with fltPin := true })
  else
    let s1 := s.setInput b (s.inputs[b]).assertFlt
    if s.bays[b].state.live then .next ((s1.enterPowerFault b).afterBay true) else .next s1

/-- QUALIFIED_FLT_DEASSERTION (R1): the level alone changes. -/
def execQualifiedFltDeassertion (b : BayId) (s : State) : Host.Outcome State Fault Refusal :=
  if !s.sampling then .next (s.setInput b { s.inputs[b] with fltPin := false })
  else .next (s.setInput b { s.inputs[b] with fltPin := false, fltLast := some false, flt := false })

/-- PG is supervised: the bay is POWERED, or RAMPING with its PG deadline past (R14, R16). -/
def BayRecord.pgSupervised (r : BayRecord) : Bool :=
  decide (r.state = .powered) || (decide (r.state = .ramping) && r.pgDeadline.isNone)

/-- QUALIFIED_PG_DEASSERTION (R1, R14, R16): a bay whose PG is supervised enters POWER_FAULT. -/
def execQualifiedPgDeassertion (b : BayId) (s : State) : Host.Outcome State Fault Refusal :=
  if !s.sampling then .next (s.setInput b { s.inputs[b] with pgPin := false })
  else
    let s1 := s.setInput b { s.inputs[b] with pgPin := false, pgLast := some false, pg := false }
    if s.bays[b].pgSupervised then .next ((s1.enterPowerFault b).afterBay true) else .next s1

/-- Ramp completion is met: RAMPING, the ramp deadline reached, PG asserted, and no fault found (R14, R15). -/
def State.rampComplete (s : State) (b : BayId) : Bool :=
  decide (s.bays[b].state = .ramping) && reached s.bays[b].rampDeadline s.now && s.inputs[b].pg && !s.inputs[b].flt

/-- QUALIFIED_PG_ASSERTION (R1, R14): a RAMPING bay whose ramp deadline is reached completes its ramp. -/
def execQualifiedPgAssertion (b : BayId) (s : State) : Host.Outcome State Fault Refusal :=
  if !s.sampling then .next (s.setInput b { s.inputs[b] with pgPin := true })
  else
    let s1 := s.setInput b { s.inputs[b] with pgPin := true, pgLast := some true, pg := true }
    if s1.rampComplete b then .next ((s1.rampEnd b).afterBay true) else .next s1

/-- PG_DEADLINE (R14): with PG deasserted the bay enters POWER_FAULT; with PG asserted PG is supervised from then on. -/
def execPgDeadline (b : BayId) (s : State) : Host.Outcome State Fault Refusal :=
  if s.bays[b].state = .ramping ∧ reached s.bays[b].pgDeadline s.now then
    if s.inputs[b].pg then .next (s.setBay b { s.bays[b] with pgDeadline := none })
    else .next ((s.enterPowerFault b).afterBay true)
  else .next s

/-- RAMP_DEADLINE (R14): with PG asserted, and no fault found, the bay completes its ramp; otherwise it stays RAMPING. -/
def execRampDeadline (b : BayId) (s : State) : Host.Outcome State Fault Refusal :=
  if s.rampComplete b then .next ((s.rampEnd b).afterBay true) else .next s

/-- DRAIN_EXPIRY (R17): to PARKED or, shed-parked with the zone out of HOLD, to QUEUED, which is a consideration. -/
def execDrainExpiry (b : BayId) (s : State) : Host.Outcome State Fault Refusal :=
  if s.bays[b].state = .removing ∧ reached s.bays[b].drainDeadline s.now then
    .next ((s.drained b).afterBay (s.bays[b].shedParked && !s.inHold b))
  else .next s

/-- BACKOFF_EXPIRY (R21): to QUEUED, the retry count kept. From a controller reset until load completion it is taken at load completion (R26). -/
def execBackoffExpiry (b : BayId) (s : State) : Host.Outcome State Fault Refusal :=
  if s.phase = .running ∧ s.bays[b].state = .powerFault ∧ reached s.bays[b].backoffDeadline s.now then
    .next ((s.enterQueued b).afterBay true)
  else .next s

end Sys2Proof.Machine
end

