-- ==== Sys2Proof/Machine/Cooling.lean ====
section
/-! DEFINITION. The cooling family (chapters 3 to 5): sensor conversions, ageing, tach edges, PWM cycles, and the control period end. -/

namespace Sys2Proof.Machine

/-! ### Local sensors -/

/-- The held reading that an in-range reading gives; `none` is out of range (R56). Half-degrees. -/
def classifyReading (r : Int) : Option Int :=
  if r < -90 then none
  else if r < -80 then some (-80)
  else if r ≤ 250 then some r
  else if r ≤ 260 then some 250
  else none

/-- The sensor after a completed conversion (R57). -/
def Sensor.convert (x : Sensor) (reading : Int) : Sensor :=
  match classifyReading reading with
  | some h => { state := .ok, held := some h }
  | none => { x with state := .failed }

/-- The conversion of sensor k is the next of the control period: each sensor is converted once in a period, S0 first and S3 last (R55). Conversions run in the
control periods, from the start of the part and outside a restart (R70). -/
def State.nextConversion (s : State) (k : SensorId) : Bool := decide (s.phase = .running) && decide (s.converted = k.castSucc)

/-- SENSOR_CONVERSION (R55 to R57): the next conversion of the period completes with the reading of its THERM input. Each entry to FAILED raises
SENSOR_FAILED. A conversion out of its turn does not arise (log 9). DEDUCED (log 36): the state changes at this completion, as R57 says, also in the first
control period, of which R188 says that the sensors are PENDING until its end. -/
def execSensorConversion (k : SensorId) (reading : Int) (s : State) : Host.Outcome State Fault Refusal :=
  if s.nextConversion k then
    let x := (s.sensors[k]).convert reading
    .next ((s.setConversion k x reading).raiseIf (decide (x.state = .failed) && decide (s.sensors[k].state ≠ .failed)) .sensorFailed)
  else .next s

/-- The span of an effective temperature (R58). -/
def clampTemperature (t : Int) : Int := max (-80) (min 250 t)

/-- The effective temperature of a sensor: of an OK sensor only (R58). -/
def State.sensorTemperature (s : State) (k : SensorId) : Option Int :=
  if s.sensors[k].state = .ok then s.sensors[k].held.map fun h => clampTemperature (h + s.tables.sensors[k].offset) else none

/-! ### Drive sources -/

/-- DRIVE_AGE_EXPIRY (R64, R62): a VALID source becomes STALE, keeping its value. -/
def execDriveAgeExpiry (b : BayId) (s : State) : Host.Outcome State Fault Refusal :=
  if s.drives[b].state = .valid ∧ elapsed s.drives[b].reportTime (s.tables.link.driveAgeLimit * 1000) s.now then
    .next (s.setDrive b (s.drives[b]).goStale)
  else .next s

/-- The effective temperature of a drive source, in half-degrees: of a VALID source only (R60). -/
def State.driveTemperature (s : State) (b : BayId) : Option Int :=
  if s.drives[b].state = .valid then s.drives[b].value.map fun v => 2 * (v : Int) else none

/-! ### What the TMON answers for a zone (R68) -/

/-- The present sources of z, each an effective temperature and its curve. -/
def State.presentSources (s : State) (z : ZoneId) : List (Int × Curve) :=
  (List.finRange 4).filterMap (fun k =>
    if s.tables.sensors[k].mask[z] then (s.sensorTemperature k).map fun t => (t, s.tables.curves[s.tables.sensors[k].curve]) else none) ++
  (List.finRange 24).filterMap (fun b =>
    if s.zoneOf b = z then (s.driveTemperature b).map fun t => (t, s.tables.curves[s.tables.zones[z].driveCurve]) else none)

/-- A FAILED sensor has z in its mask (R59, R68). -/
def State.sensorFailedFor (s : State) (z : ZoneId) : Bool :=
  (List.finRange 4).any fun k => s.tables.sensors[k].mask[z] && decide (s.sensors[k].state = .failed)

/-- A POWERED bay of z has a STALE drive source (R68). -/
def State.driveStaleIn (s : State) (z : ZoneId) : Bool :=
  (List.finRange 24).any fun b =>
    decide (s.zoneOf b = z) && decide (s.bays[b].state = .powered) && decide (s.drives[b].state = .stale)

/-! ### Demand (R74, R79 to R84) -/

/-- The curve value at an effective temperature (R74). -/
def curveValue : List CurvePoint → Int → Nat
  | [], _ => 0
  | [p], _ => p.duty
  | p :: q :: rest, t =>
    if t ≤ p.temp then p.duty
    else if t < q.temp then p.duty + (q.duty - p.duty) * (t - p.temp).toNat / (q.temp - p.temp).toNat
    else curveValue (q :: rest) t

/-- The raw demand of z: the largest curve value, 0 with no present source (R79). -/
def State.rawDemand (s : State) (z : ZoneId) : Nat :=
  ((s.presentSources z).map fun x => curveValue x.2.points x.1).foldl max 0

/-- The held demand after a comparison with the new raw demand (R80). -/
def heldDemand (held raw hysteresis : Nat) : Nat := if held ≤ raw ∨ raw + hysteresis < held then raw else held

/-- The weight floor of z (R81). -/
def State.weightFloor (s : State) (z : ZoneId) : Nat :=
  min 1000
    (s.tables.zones[z].baseFloor +
      ((List.finRange 24).map fun b => if s.zoneOf b = z ∧ s.bays[b].state.live then (s.classOf b).weight else 0).sum)

/-- The condition floors of z that apply (R82). -/
def State.floorsApplied (s : State) (z : ZoneId) : FloorsApplied :=
  { stale := s.tables.zones[z].reportsExpected && s.driveStaleIn z
    sensorFail := s.sensorFailedFor z
    linkLost := s.linkLost }

/-- The floor of z: the largest of the weight floor and the condition floors that apply (R82). -/
def floorOf (zs : ZoneSetting) (weight : Nat) (f : FloorsApplied) : Nat :=
  max weight (max (if f.stale then zs.staleFloor else 0)
    (max (if f.sensorFail then zs.sensorFailFloor else 0) (if f.linkLost then zs.linkLostFloor else 0)))

/-- The target of a zone: the larger of the held demand and the floor, raised to the boost duty when a fan of the zone is FAILED (R82, R83). -/
def targetOf (zs : ZoneSetting) (held floor failedFans : Nat) : Nat :=
  let t := max held floor
  if 0 < failedFans then max t zs.boostDuty else t

/-- The output duty (R84): toward the target by at most the slew limits; the slew-up limit is bypassed on a failed fan or sensor. -/
def slewed (zs : ZoneSetting) (output target : Nat) (bypass : Bool) : Nat :=
  if output < target then (if bypass then target else min target (output + zs.slewUp)) else max target (output - zs.slewDown)

/-! ### HOLD and SHED (R96 to R98) -/

/-- A source is at a threshold: at or above it (R96). -/
def atThreshold (t : Int) : Option Int → Bool
  | some h => decide (h ≤ t)
  | none => false

/-- A source is clear of a threshold: below it minus 4 half-degrees, or the curve has none (R96). -/
def clearOfThreshold (t : Int) : Option Int → Bool
  | some h => decide (t < h - 4)
  | none => true

/-- HOLD after this period end (R97). -/
def holdNext (hold : Bool) (sources : List (Int × Curve)) (failedFans fansForHold : Nat) : Bool :=
  if hold then
    !(sources.all (fun x => clearOfThreshold x.1 x.2.hold) && decide (failedFans < fansForHold))
  else sources.any (fun x => atThreshold x.1 x.2.hold) || decide (fansForHold ≤ failedFans)

/-- SHED after this period end (R98). -/
def shedNext (shed : Bool) (sources : List (Int × Curve)) : Bool :=
  if shed then !(sources.all fun x => clearOfThreshold x.1 x.2.shed) else sources.any fun x => atThreshold x.1 x.2.shed

/-! ### Fans -/

/-- The rpm of a closed window; above 65534 it is taken as 65534 (R88). -/
def windowRpm (pulses pulsesPerRev : Nat) : Nat := min 65534 (pulses * 60 / pulsesPerRev)

/-- A fan after its window is closed and judged under its state (stage 1 of R78; R88, R90, R91). DESIGN CHOICE (log 41): the grace start of a STARTING fan becomes absent where
it enters RUNNING. -/
def Fan.closeWindow (f : Fan) (c : FanSetting) (now : Nat) : Fan :=
  let rpm := windowRpm f.pulses c.pulsesPerRev
  let good := decide (c.floorRpm ≤ rpm)
  let f := { f with lastRpm := some rpm }
  match f.state with
  | .stopped => f
  | .starting => if elapsed f.grace Config.graceMs now then { f with state := .running, grace := none, lowCount := 0, goodCount := 0 } else f
  | .running =>
    if f.skipWindow then f
    else if good then { f with lowCount := 0 }
    else if 3 ≤ f.lowCount + 1 then { f with state := .failed, lowCount := 0, goodCount := 0 }
    else { f with lowCount := f.lowCount + 1 }
  | .failed =>
    if !good then { f with goodCount := 0 }
    else if 3 ≤ f.goodCount + 1 then { f with state := .running, lowCount := 0, goodCount := 0 }
    else { f with goodCount := f.goodCount + 1 }

/-- The duty of a fan from its zone's output duty (R85). -/
def fanDuty (c : FanSetting) (out : Nat) : Nat :=
  if out = 0 ∧ c.stopAllowed then 0 else c.minDuty + (c.maxDuty - c.minDuty) * out / 1000

/-- A fan after stage 3 of R78: its duty, the moves of its state (R89) and its compare count (R86); and after stage 4, its next window open. -/
def Fan.drive (f : Fan) (duty now : Nat) : Fan :=
  let f := { f with duty := duty, compare := pwmCompare duty f.divisor, pulses := 0, skipWindow := false }
  if duty = 0 then { f with state := .stopped, lowCount := 0, goodCount := 0, grace := none }
  else if f.state = .stopped then { f with state := .starting, grace := some now }
  else f

/-- The failed-fan count of z (R92). -/
def failedFans (fans : Vector Fan 6) (table : Vector FanSetting 6) (z : ZoneId) : Nat :=
  ((List.finRange 6).filter fun f => decide (table[f].zone = z) && decide (fans[f].state = .failed)).length

/-! ### The control period end (R78) -/

/-- Stage 1: the fans after their windows are judged. -/
def State.judgedFans (s : State) : Vector Fan 6 := Vector.ofFn fun f => (s.fans[f]).closeWindow s.tables.fans[f] s.now

/-- Stage 2: a zone's demand and conditions, from its sources and the fan states of stage 1 (R79 to R84, R97, R98). -/
def State.zoneWork (s : State) (fans : Vector Fan 6) (z : ZoneId) : Zone :=
  let zs := s.tables.zones[z]
  let old := s.zones[z]
  let sources := s.presentSources z
  let failed := failedFans fans s.tables.fans z
  let raw := s.rawDemand z
  let held := heldDemand old.held raw zs.hysteresis
  let weight := s.weightFloor z
  let floors := s.floorsApplied z
  let target := targetOf zs held (floorOf zs weight floors) failed
  let shed := shedNext old.shed sources
  { held := held
    output := slewed zs old.output target (decide (0 < failed) || s.sensorFailedFor z)
    raw := some raw
    target := some target
    weightFloor := some weight
    floors := floors
    failedFans := failed
    hold := holdNext old.hold sources failed zs.fansForHold
    shed := shed
    shedSince := if shed then (if old.shed then old.shedSince else some s.now) else none }

/-- The shed engine record of a zone at a change of SHED (R50, R100). -/
def shedFollows (old new : Bool) (r : ShedRecord) (now : Nat) : ShedRecord :=
  if new && !old then .delay now else if old && !new then .idle else r

/-- The FCT's work at a period end (R78), with what the PSQ does in the same transition (R100): the shed engine follows SHED, and where HOLD clears the
zones' shed-parked PARKED bays are re-queued as one group (R104), followed by one consideration. -/
def State.periodEnd (s : State) : State :=
  let fans := s.judgedFans
  let zones : Vector Zone 3 := Vector.ofFn fun z => s.zoneWork fans z
  let fanFails := (List.finRange 6).any fun f => decide (fans[f].state = .failed) && decide (s.fans[f].state ≠ .failed)
  let holdSets := (List.finRange 3).any fun z => zones[z].hold && !s.zones[z].hold
  let holdClears := (List.finRange 3).any fun z => s.zones[z].hold && !zones[z].hold
  let s1 : State :=
    { s with
      fans := Vector.ofFn fun f => (fans[f]).drive (fanDuty s.tables.fans[f] zones[s.tables.fans[f].zone].output) s.now
      zones := zones
      psq := { s.psq with
        shed := Vector.ofFn fun z => shedFollows s.zones[z].shed zones[z].shed s.psq.shed[z] s.now } }
  let s2 := (s1.raiseIf fanFails .fanFailed).raiseIf holdSets .zoneHold
  let requeued (b : BayId) : Bool :=
    decide (s.bays[b].state = .parked) && s.bays[b].shedParked && s.inHold b && !zones[s.zoneOf b].hold
  (s2.enterQueuedAll requeued).considerIf holdClears

/-- The control period ends: its time has come, and its four conversions have completed, as they have before every period end (R55). -/
def State.periodOver (s : State) : Bool :=
  decide (s.phase = .running) && reached s.tb.nextPeriod s.now && decide (s.converted = Fin.last 4)

/-- CONTROL_PERIOD_END (R78): taken when the Timebase's period ends; the conversions of the next period begin with S0 (R55). -/
def execControlPeriodEnd (s : State) : Host.Outcome State Fault Refusal :=
  if s.periodOver then
    .next (State.periodEnd
      { s with tb := { s.tb with nextPeriod := s.tb.nextPeriod.map (· + Config.controlPeriodMs) }, converted := 0 })
  else .next s

/-- FAN_GRACE_EXPIRY (R90): at a period end, a STARTING fan whose grace has passed enters RUNNING with cleared counts, and the window that this period end
closes is not judged. CONTROL_PERIOD_END does the same for every fan at its stage 1. DESIGN CHOICE (log 41): the grace start becomes absent there. -/
def execFanGraceExpiry (f : FanId) (s : State) : Host.Outcome State Fault Refusal :=
  if s.phase = .running ∧ reached s.tb.nextPeriod s.now ∧ s.fans[f].state = .starting ∧
      elapsed s.fans[f].grace Config.graceMs s.now then
    .next (s.setFan f { s.fans[f] with state := .running, grace := none, lowCount := 0, goodCount := 0, skipWindow := true })
  else .next s

/-- TACH_EDGE (R88): one more pulse in the open window, stopping at 65535. Windows are open from the start of the part, outside a restart. -/
def execTachEdge (f : FanId) (s : State) : Host.Outcome State Fault Refusal :=
  if s.phase = .running then .next (s.setFan f { s.fans[f] with pulses := min 65535 (s.fans[f].pulses + 1) }) else .next s

/-- PWM_CYCLE_END (R86): the divisor and compare count loaded most recently take effect. -/
def execPwmCycleEnd (f : FanId) (s : State) : Host.Outcome State Fault Refusal :=
  .next (s.setFan f { s.fans[f] with divisorNow := s.fans[f].divisor, compareNow := s.fans[f].compare })

end Sys2Proof.Machine
end

