-- ==== Sys2Proof/Machine/Downstream.lean ====
section
/-! DEFINITION. The downstream family (chapters 7 and 8): the probe, the frames on the return input, the outstanding sweep list's deadline, and the end of a
frame on the downstream lane. -/

namespace Sys2Proof.Machine

/-- PROBE_ANSWER (R145): the first answer after the start counts 0; a later answer of the other kind with the hop the port sends adds 1, any other becomes a
new first answer; at 8 the port is ALIGNED. -/
def execProbeAnswer (kind : TrainKind) (hop : BitVec 4) (s : State) : Host.Outcome State Fault Refusal :=
  if s.liu.port = .probing then
    let sent := (s.liu.position.map (·.val)).getD 0 + 1
    let count :=
      match s.liu.probeAnswer with
      | some k => if k ≠ kind ∧ hop.toNat = sent then s.liu.probeCount + 1 else 0
      | none => 0
    if 8 ≤ count then .next { s with liu := s.liu.portAligned s.now }
    else .next { s with liu := { s.liu with probeAnswer := some kind, probeCount := count } }
  else .next s

/-- PROBE_TIMEOUT (R145): 10 ms without 8 answers. -/
def execProbeTimeout (s : State) : Host.Outcome State Fault Refusal :=
  if s.liu.port = .probing ∧ elapsed s.liu.probeStart Config.probeMs s.now then .next { s with liu := s.liu.portAbsent s.now }
  else .next s

/-- PROBE_RETRY (R145): a retry that is due starts a probe while the upstream link is ALIGNED; while it is SILENT or LOST it waits. -/
def execProbeRetry (s : State) : Host.Outcome State Fault Refusal :=
  if s.liu.port = .absent ∧ s.liu.link = .aligned ∧ reached s.liu.retryDue s.now then
    .next { s with liu := s.liu.startProbe s.now }
  else .next s

/-- RETURN_WATCH_TIMEOUT (R145): 50 ms without a valid frame on the return input. -/
def execReturnWatchTimeout (s : State) : Host.Outcome State Fault Refusal :=
  if s.liu.port = .aligned ∧ elapsed s.liu.returnWatch Config.returnWatchMs s.now then
    .next { s with liu := s.liu.portAbsent s.now }
  else .next s

/-- A valid frame on the return input restarts the return watch (R147). -/
def Liu.restartWatch (l : Liu) (now : Nat) : Liu := { l with returnWatch := some now }

/-- A return from downstream, matched by its number (R161): the older entries are given up, the part's own slots filled, the entry removed, and the return
made pending. A return that matches no entry is late, and discarded. -/
def State.matchReturn (s : State) (r : ReturnFrame) : State :=
  match outstandingPlace r.number s.liu.outstanding with
  | none => s
  | some k =>
    let s1 := State.giveUpMany k s
    let filled := { r with attention := r.attention || attentionAny s1.mru.attention, slots := s1.fillSlots r.slots }
    { s1 with liu := Liu.pendReturn { s1.liu with outstanding := s1.liu.outstanding.drop 1 } filled }

/-- DOWNSTREAM_RETURN (R147, R161). -/
def execDownstreamReturn (number : Byte) (attention : Bool) (originator : Byte) (slots : Slots) (s : State) : Host.Outcome State Fault Refusal :=
  if s.liu.port = .aligned then
    .next (State.matchReturn { s with liu := s.liu.restartWatch s.now } { number, attention, originator, slots })
  else .next s

/-- DOWNSTREAM_REPLY (R147, R150): the reply joins the reply queue unchanged. -/
def execDownstreamReply (source tag status : Byte) (payload : List Byte) (s : State) : Host.Outcome State Fault Refusal :=
  if s.liu.port = .aligned then
    .next { s with liu := (s.liu.restartWatch s.now).pushReply { source, tag, status, payload, restart := false } }
  else .next s

/-- DOWNSTREAM_OTHER_FRAME (R147): discarded, after it restarts the return watch. -/
def execDownstreamOtherFrame (s : State) : Host.Outcome State Fault Refusal :=
  if s.liu.port = .aligned then .next { s with liu := s.liu.restartWatch s.now } else .next s

/-- DOWNSTREAM_BAD_FRAME (R147): discarded; neither the error count nor the return watch is affected. -/
def execDownstreamBadFrame (s : State) : Host.Outcome State Fault Refusal := .next s

/-- The oldest entry's deadline is reached (R162). -/
def State.oldestDue (s : State) : Bool :=
  match s.liu.outstanding with
  | [] => false
  | e :: _ => decide (e.deadline ≤ s.now)

/-- The entries whose deadlines are reached are given up, oldest first, as many as the first argument allows (R162). -/
def State.giveUpDue : Nat → State → State
  | 0, s => s
  | n + 1, s => if s.oldestDue then State.giveUpDue n s.giveUp else s

/-- OUTSTANDING_DEADLINE (R162): the oldest entry and then the new oldest; the list holds at most two. -/
def execOutstandingDeadline (s : State) : Host.Outcome State Fault Refusal := .next (State.giveUpDue Config.outstandingMax s)

/-- DOWNSTREAM_LANE_FRAME_END (R146). A lane that carries no frame has none to end. -/
def execDownstreamLaneFrameEnd (s : State) : Host.Outcome State Fault Refusal :=
  if s.liu.port = .aligned then
    match s.liu.downLane with
    | .idle => .next s
    | .probing _ => .next s
    | .fill => .next { s with liu := s.liu.nextDown }
    | .frame _ => .next { s with liu := s.liu.nextDown }
  else .next s

end Sys2Proof.Machine
end

