-- ==== Sys2Proof/Machine/Lights.lean ====
section
/-! DEFINITION. The light family (chapter 6): LIGHT_TICK and ACTIVITY_STRETCH_EXPIRY. -/

namespace Sys2Proof.Machine

/-- The indication is active for the bay (R110 to R114). -/
def State.active (s : State) (b : BayId) (id : IndicationId) : Bool :=
  let r := s.bays[b]
  match id.val with
  | 16 => s.smap[b].stretch.isSome
  | 17 => decide (r.state = .settling)
  | 18 => decide (r.state = .queued)
  | 19 => decide (r.state = .ramping)
  | 20 => decide (r.state = .powered)
  | 21 => decide (r.state = .powerFault)
  | 22 => decide (r.state = .lockedOut)
  | 23 => decide (r.state = .removing)
  | 24 => decide (r.state = .parked)
  | 25 => r.shedParked
  | 26 => s.len.linkLost && decide (r.state ≠ .empty)
  | 27 => r.identify
  | 28 => decide (r.state ≠ .empty) && (s.tables.bayMap[b]).isNone
  | 29 => r.marks[0]
  | 30 => r.marks[1]
  | 31 => r.marks[2]
  | n => decide (n = s.smap[b].condition.val)

/-- The two lines of a bay. -/
inductive LineName where
  | a | b
  deriving DecidableEq, Repr

/-- The pattern that an indication's entry gives for a line; `none` is TRANSPARENT (R115). -/
def IndicationEntry.patternFor (e : IndicationEntry) : LineName → Option PatternId
  | .a => e.patternA
  | .b => e.patternB

/-- The indication is a candidate for the line: active, with a pattern for it, at or above the bay's light floor level (R117). -/
def State.lightCandidate (s : State) (b : BayId) (ln : LineName) (id : IndicationId) : Bool :=
  s.active b id && ((s.tables.indications[id]).patternFor ln).isSome && decide ((s.setting b).lightFloor ≤ s.tables.indications[id].level)

/-- The better of the shown indication so far and a candidate of higher id: the higher level and, among equals, the lower id (R117). -/
def State.betterLight (s : State) (best : Option IndicationId) (id : IndicationId) : Option IndicationId :=
  match best with
  | none => some id
  | some j => if s.tables.indications[j].level < s.tables.indications[id].level then some id else some j

/-- The shown indication of a line (R117). -/
def State.shownFor (s : State) (b : BayId) (ln : LineName) : Option IndicationId :=
  ((List.finRange 32).filter (s.lightCandidate b ln)).foldl s.betterLight none

/-- The level of the step at an offset; the steps are laid end to end (R119). -/
def levelAt : List PatternStep → Nat → Bool
  | [], _ => false
  | st :: rest, k => if k < st.duration then st.on else levelAt rest (k - st.duration)

/-- A line after its selection, phase and output at a light tick (R118, R121, R122, R124). -/
def State.tickLine (s : State) (b : BayId) (ln : LineName) (l : Line) : Line :=
  let shown := s.shownFor b ln
  match shown.bind fun id => (s.tables.indications[id]).patternFor ln with
  | none =>
    { l with shown := shown, pattern := none, offset := 0, engine := false, driven := l.manual.getD false }
  | some p =>
    let pat := s.tables.patterns[p]
    let offset :=
      match pat.mode with
      | .shared => 0
      | .restart =>
        if shown ≠ l.shown ∨ l.pattern ≠ some p ∨ s.len.written[p] then 0
        else if l.offset + 1 < pat.length then l.offset + 1 else 0
    let phase :=
      match pat.mode with
      | .shared => s.len.clock % pat.length
      | .restart => offset
    let level := levelAt pat.steps phase
    { l with shown := shown, pattern := some p, offset := offset, engine := level, driven := l.manual.getD level }

/-- The LEN's work at a light tick (R118): all 48 lines, and then the global pattern clock (R120). -/
def State.lightWork (s : State) : State :=
  { s with
    len := { s.len with
      lineA := Vector.ofFn fun b => s.tickLine b .a s.len.lineA[b]
      lineB := Vector.ofFn fun b => s.tickLine b .b s.len.lineB[b]
      active := Vector.ofFn fun b => Vector.ofFn fun id => s.active b id
      written := Vector.replicate 16 false
      clock := (s.len.clock + 1) % 4294967296 } }

/-- LIGHT_TICK (R118): taken when the Timebase's light tick falls. None is taken before the start of the part or in a restart. -/
def execLightTick (s : State) : Host.Outcome State Fault Refusal :=
  if s.phase = .running ∧ reached s.tb.nextLight s.now then
    .next (State.lightWork { s with tb := { s.tb with nextLight := s.tb.nextLight.map (· + Config.lightTickMs) } })
  else .next s

/-- ACTIVITY_STRETCH_EXPIRY (R111): the deadline, once reached, becomes absent. -/
def execActivityStretchExpiry (b : BayId) (s : State) : Host.Outcome State Fault Refusal :=
  if reached s.smap[b].stretch s.now then .next (s.setApplied b { s.smap[b] with stretch := none }) else .next s

end Sys2Proof.Machine
end

