-- ==== Sys2Proof/Machine/Operands.lean ====
section
/-! DEFINITION. The requests and their payloads (R196, R197): what the MRU reads from the kind byte and the payload bytes, up to the checks that need
no state of the part. -/

namespace Sys2Proof.Machine

/-- The request kinds; `undefined` is any other kind byte (R167). -/
inductive RequestKind where
  | tableRead | tableWrite | bayAction | temperatureReport | statusRead | attentionClear | lineSet | restart | configSave | undefined
  deriving DecidableEq, Repr

/-- The kind a byte names (R196). -/
def RequestKind.ofByte (b : Byte) : RequestKind :=
  match b.toNat with
  | 0x10 => .tableRead
  | 0x11 => .tableWrite
  | 0x20 => .bayAction
  | 0x21 => .temperatureReport
  | 0x30 => .statusRead
  | 0x31 => .attentionClear
  | 0x32 => .lineSet
  | 0x40 => .restart
  | 0x41 => .configSave
  | _ => .undefined

/-- The kinds served while a save is in progress (R168). -/
def RequestKind.reads : RequestKind → Bool
  | .tableRead => true
  | .statusRead => true
  | _ => false

/-- The bay actions (R173). -/
inductive BayAction where
  | powerOn | powerOff | clearLockout | identifyOn | identifyOff
  | markSet (n : Fin 3)
  | markClear (n : Fin 3)
  deriving DecidableEq, Repr

/-- The status selectors that carry nothing further, and BAYS with its range (R174). -/
inductive Selector where
  | summary
  | bays (first count : Nat)
  | sources | fans | zones | lines
  deriving DecidableEq, Repr

/-- The two forms of a RESTART (R178). -/
inductive RestartForm where
  | immediate | quiesced
  deriving DecidableEq, Repr

/-- A decoded request: what is to be carried out, or the status with which it fails. -/
inductive Request where
  | invalid (status : Status)
  | tableRead (id : TableId) (first count : Nat)
  | tableWrite (id : TableId) (first count : Nat) (entries : List Byte)
  | bayAction (bay : BayId) (action : BayAction)
  | temperatureReport (pairs : List (Byte × Byte))
  | statusRead (selector : Selector)
  | attentionClear (kinds : BitVec 15)
  | lineSet (bays : BitVec 24) (lineA lineB : Bool) (manual : Option Bool)
  | restart (form : RestartForm)
  | configSave
  deriving DecidableEq, Repr

/-- A TABLE READ: the id first, then the range (steps 1 and 2 of R169). -/
def tableReadRequest (table first count : Byte) : Request :=
  match TableId.ofByte table with
  | none => .invalid .noTable
  | some id => if rangeOk id first.toNat count.toNat then .tableRead id first.toNat count.toNat else .invalid .badRange

/-- A TABLE WRITE: the id first, then the range (steps 1 and 2 of R170). -/
def tableWriteRequest (table first count : Byte) (entries : List Byte) : Request :=
  match TableId.ofByte table with
  | none => .invalid .noTable
  | some id =>
    if rangeOk id first.toNat count.toNat then .tableWrite id first.toNat count.toNat entries else .invalid .badRange

/-- The mark a byte names, from 1 to 3 (R24). -/
def markOf (n : Byte) : Option (Fin 3) := if n = 0 then none else Byte.index 3 (n - 1)

/-- The action of an action code; the mark number is read for MARK_SET and MARK_CLEAR only (R196, R197). -/
def actionOf (code mark : Byte) : Option BayAction :=
  match code.toNat with
  | 1 => some .powerOn
  | 2 => some .powerOff
  | 3 => some .clearLockout
  | 4 => some .identifyOn
  | 5 => some .identifyOff
  | 6 => (markOf mark).map .markSet
  | 7 => (markOf mark).map .markClear
  | _ => none

/-- A BAY ACTION: the bay number is checked first (R173). -/
def bayActionRequest (bay code mark : Byte) : Request :=
  match Byte.index 24 bay with
  | none => .invalid .badRange
  | some b =>
    match actionOf code mark with
    | none => .invalid .badValue
    | some a => .bayAction b a

/-- A TEMPERATURE REPORT carries from 1 to 64 pairs (R172). -/
def temperatureReportRequest (pairs : List (Byte × Byte)) : Request :=
  if 1 ≤ pairs.length ∧ pairs.length ≤ 64 then .temperatureReport pairs else .invalid .badValue

/-- STATUS READ BAYS: a count of 0, a range beyond B23, or more records than fit in 240 bytes (at most 9) is BAD_RANGE (R174, section 11.4). -/
def statusReadBaysRequest (first count : Byte) : Request :=
  if 1 ≤ count.toNat ∧ first.toNat + count.toNat ≤ 24 ∧ count.toNat ≤ 9 then .statusRead (.bays first.toNat count.toNat)
  else .invalid .badRange

/-- An ATTENTION CLEAR: bit 15 names an undefined kind (R177, R197). -/
def attentionClearRequest (kinds : BitVec 16) : Request :=
  if kinds.getLsbD 15 then .invalid .badValue else .attentionClear (kinds.setWidth 15)

/-- A LINE SET: the bay set first, then the lines, the mode and the level, the level in both modes (R126, R197). DESIGN CHOICE (log 37): an empty bay set with an
undefined lines byte, mode or level is BAD_VALUE; R126 gives DONE for the one and BAD_VALUE for the other, and not which of them governs. -/
def lineSetRequest (baySet : BitVec 32) (lines mode level : Byte) : Request :=
  if 16777216 ≤ baySet.toNat then .invalid .badRange
  else if lines = 0 ∨ 4 ≤ lines.toNat then .invalid .badValue
  else
    match flagOf mode, flagOf level with
    | some m, some l =>
      .lineSet (baySet.setWidth 24) (lines.getLsbD 0) (lines.getLsbD 1) (if m then some l else none)
    | _, _ => .invalid .badValue

/-- The pairs of a report, from its bytes. -/
def pairsOf : List Byte → Option (List (Byte × Byte))
  | [] => some []
  | a :: b :: rest => (pairsOf rest).map ((a, b) :: ·)
  | _ => none

/-- The payload of a request of a kind, decoded; a payload whose length does not agree with its kind is BAD_VALUE (R167). -/
def decodeRequest (kind : RequestKind) (payload : List Byte) : Request :=
  match kind, payload with
  | .tableRead, [t, f, c] => tableReadRequest t f c
  | .tableWrite, t :: f :: c :: es => tableWriteRequest t f c es
  | .bayAction, [b, a, m] => bayActionRequest b a m
  | .temperatureReport, n :: ps =>
    match pairsOf ps with
    | some pairs => if pairs.length = n.toNat then temperatureReportRequest pairs else .invalid .badValue
    | none => .invalid .badValue
  | .statusRead, [sel] =>
    match sel.toNat with
    | 0 => .statusRead .summary
    | 2 => .statusRead .sources
    | 3 => .statusRead .fans
    | 4 => .statusRead .zones
    | 5 => .statusRead .lines
    | _ => .invalid .badValue
  | .statusRead, [sel, f, c] => if sel = 1 then statusReadBaysRequest f c else .invalid .badValue
  | .attentionClear, [h, l] => attentionClearRequest (h ++ l)
  | .lineSet, [a, b, c, d, lines, mode, level] => lineSetRequest (a ++ b ++ c ++ d) lines mode level
  | .restart, [form] => if form = 0 then .restart .immediate else if form = 1 then .restart .quiesced else .invalid .badValue
  | .configSave, [] => .configSave
  | .undefined, _ => .invalid .unknownKind
  | _, _ => .invalid .badValue

end Sys2Proof.Machine
end

