-- ==== Sys2Proof/Machine/Status.lean ====
section
/-! DEFINITION. The status records (section 11.4; R69, R93, R127, R174, R175), each as the bytes of its reply payload. -/

namespace Sys2Proof.Machine

/-- The remaining time to a deadline in ms, 0xFFFFFFFF when absent. DESIGN CHOICE (log 38): a deadline that has passed and stays present, as that of a RAMPING bay whose
PG is deasserted does (R14), leaves 0 ms; section 11.4 gives no value for it. -/
def remainingBytes (deadline : Option Nat) (now : Nat) : List Byte :=
  match deadline with
  | some t => u32 (t - now)
  | none => u32 0xFFFFFFFF

/-- Two bytes, 0xFFFF when absent. -/
def optional16 : Option Nat → List Byte
  | some n => u16 n
  | none => u16 0xFFFF

/-- One byte, 0xFF when absent. -/
def optional8 : Option Nat → Byte
  | some n => u8 n
  | none => 0xFF

/-- The SUMMARY record (R175). -/
def State.summaryRecord (s : State) : List Byte :=
  [u8 s.liu.link.code, flagByte (decide (s.liu.link = .fault) && s.liu.lostLatch), positionByte s.liu.position] ++
    u16 s.liu.errorCount ++ [u8 s.liu.port.code] ++ u16 s.mru.attention.toNat ++
    u16 s.psq.committed12 ++ u16 s.psq.committed5 ++ (List.finRange 6).flatMap (fun g => u16 s.psq.branch[g]) ++
    [u8 s.psq.rampingCount, flagByte s.psq.quiescePending, u8 s.psq.queue.length] ++
    s.psq.queue.map (fun e => u8 e.bay.val) ++
    (List.finRange 3).map (fun z => u8 (bitsOf [s.zones[z].hold, s.zones[z].shed])) ++
    u16 (bitsOf s.cmp.defaulted.toList) ++ u16 (bitsOf s.cmp.clamped.toList) ++
    [flagByte s.mru.saveInProgress] ++ u32 s.uptime

/-- The 24 bytes of one bay in a BAYS record (R5, R1). -/
def State.bayRecordBytes (s : State) (b : BayId) : List Byte :=
  let r := s.bays[b]
  [u8 b.val, u8 r.state.code, u8 r.cls.val] ++ u16 r.charge12 ++ u16 r.charge5 ++ u16 r.steady12 ++
    [u8 r.retryCount,
      u8 (bitsOf [r.shedParked, r.surprise, r.identify, r.marks[0], r.marks[1], r.marks[2], s.inputs[b].pg, s.inputs[b].flt]),
      flagByte r.lastGrant.isSome] ++
    u32 (r.lastGrant.getD (Config.absentGrantTime s.freeCount b.val).toNat) ++
    remainingBytes r.rampDeadline s.now ++
    remainingBytes (r.pgDeadline.or (r.backoffDeadline.or r.drainDeadline)) s.now

/-- The BAYS record of a range of bays (R174). -/
def State.baysRecord (s : State) (first count : Nat) : List Byte :=
  [u8 first, u8 count] ++
    ((List.finRange 24).filter fun b => decide (first ≤ b.val ∧ b.val < first + count)).flatMap s.bayRecordBytes

/-- The SOURCES record (R69). -/
def State.sourcesRecord (s : State) : List Byte :=
  (List.finRange 4).flatMap (fun k =>
    [u8 s.sensors[k].state.code] ++ temperatureBytes s.sensors[k].held ++ temperatureBytes (s.sensorTemperature k) ++
      (s.tables.sensors[k]).encode) ++
  (List.finRange 24).flatMap fun b =>
    [u8 s.drives[b].state.code, optional8 s.drives[b].value,
      optional8 (if s.drives[b].state = .valid then s.drives[b].reportTime.map fun t => (s.now - t) / 1000 else none),
      u8 (s.zoneOf b).val, flagByte (s.temperatureWanted b)]

/-- The whole seconds that remain of a STARTING fan's grace, rounded up (R93). DESIGN CHOICE (log 38): 0 where the 5 s have passed and the fan is still STARTING until the
next period end (R90). -/
def Fan.graceRemaining (f : Fan) (now : Nat) : Option Nat :=
  if f.state = .starting then f.grace.map fun t => (t + Config.graceMs - now + 999) / 1000 else none

/-- The FANS record (R93). -/
def State.fansRecord (s : State) : List Byte :=
  (List.finRange 6).flatMap fun f =>
    let x := s.fans[f]
    [u8 x.state.code, u8 s.tables.fans[f].zone.val] ++ u16 x.duty ++ u32 x.divisor ++ u32 x.compare ++ optional16 x.lastRpm ++
      [u8 x.lowCount, u8 x.goodCount, optional8 (x.graceRemaining s.now)]

/-- The ZONES record (R93, R109). -/
def State.zonesRecord (s : State) : List Byte :=
  (List.finRange 3).flatMap fun z =>
    let x := s.zones[z]
    u16 x.held ++ u16 x.output ++ optional16 x.raw ++ optional16 x.target ++ optional16 x.weightFloor ++
      [u8 (bitsOf [x.floors.stale, x.floors.sensorFail, x.floors.linkLost]), u8 x.failedFans, u8 (bitsOf [x.hold, x.shed])] ++
      u32 ((x.shedSince.map s.uptimeAt).getD (Config.clearShedSince s.freeCount z.val).toNat)

/-- The two bytes of one line in a LINES record (R127). -/
def Line.bytes (l : Line) : List Byte := [u8 (bitsOf [l.manual.isSome, l.driven]), optional8 (l.shown.map (·.val))]

/-- The LINES record (R127). -/
def State.linesRecord (s : State) : List Byte :=
  (List.finRange 24).flatMap fun b =>
    u32 (bitsOf s.len.active[b].toList) ++ (s.len.lineA[b]).bytes ++ (s.len.lineB[b]).bytes

end Sys2Proof.Machine
end

