-- ==== Sys2Proof/Machine/Requests.lean ====
section
/-! DEFINITION. The request family (chapter 9): the MRU's discipline, what each request does, and the meanings of the rows that stand for a request handed to
the MRU. -/

namespace Sys2Proof.Machine

/-! ### Table writes -/

/-- A fan at the completion of a fan table write (R77, R90): a changed PWM frequency loads N and the compare count anew and, with a duty above 0, puts the
fan into STARTING with its counts cleared. DESIGN CHOICE (log 35): R90 says that the counts are cleared for a FAILED fan only; the low count of a RUNNING fan is
cleared too, as at every other new start. -/
def Fan.onWrite (f : Fan) (old new now : Nat) : Fan :=
  if old = new then f
  else
    let g := f.loadPwm new
    if f.duty = 0 then g
    else { g with state := .starting, grace := some now, lowCount := 0, goodCount := 0, skipWindow := false }

/-- The shed-parked PARKED bays that a bay settings write moves to a zone out of HOLD (R106). -/
def State.movedOut (s : State) (old : Vector BaySetting 24) (b : BayId) : Bool :=
  decide (s.bays[b].state = .parked) && s.bays[b].shedParked && decide (old[b].zone ≠ s.zoneOf b) && !s.inHold b

/-- What a completed write does at once beside replacing the entries (last column of the table of section 9.2). -/
def State.takeUp (s : State) (id : TableId) (first count : Nat) (old : Tables) : State :=
  match id with
  | .bayMap =>
    { s with
      smap := Vector.ofFn fun b =>
        if (old.bayMap[b]).isSome ∧ (s.tables.bayMap[b]).isNone then { s.smap[b] with condition := 0 } else s.smap[b] }
  | .baySettings =>
    let s1 : State := { s with bays := Vector.ofFn fun b => (s.bays[b]).adoptClass (s.setting b).cls }
    let s2 := s1.enterQueuedAll (s1.movedOut old.baySettings)
    ((List.finRange 3).foldl State.shedOwed s2).consider
  | .classes => s.consider
  | .limits => s.consider
  | .patterns =>
    { s with
      len := { s.len with
        written := Vector.ofFn fun p => s.len.written[p] || (decide (first ≤ p.val) && decide (p.val < first + count)) } }
  | .fans =>
    { s with
      fans := Vector.ofFn fun f => (s.fans[f]).onWrite old.fans[f].pwmFrequency s.tables.fans[f].pwmFrequency s.now }
  | _ => s

/-- A budget of the record lies below the committed charge it governs (R30). -/
def Limits.overCommitted (l : Limits) (p : Psq) : Bool :=
  decide (l.rail12 < p.committed12) || decide (l.rail5 < p.committed5) ||
    (List.finRange 6).any fun g => decide (l.branch[g] < p.branch[g])

/-- A TABLE WRITE from its length on (steps 3 to 6 of R170): the state after it, and the status and payload of its reply. -/
def State.writeTable (s : State) (id : TableId) (first count : Nat) (bytes : List Byte) : State × Status × List Byte :=
  match splitEntries id count bytes with
  | some (raws, []) =>
    match s.tables.checkWrite id first raws with
    | .bad i => (s, .badValue, [u8 id.code, u8 i])
    | .ok t =>
      if decide (id = .limits) && t.limits.overCommitted s.psq then (s, .overLimit, [u8 id.code, 0])
      else (State.takeUp { s with tables := t } id first count s.tables, .done, [])
  | _ => (s, .badValue, [])

/-- A TABLE READ that passed its range (R169): the entries must fit in 240 bytes with the three that precede them. -/
def State.readTable (s : State) (id : TableId) (first count : Nat) : Status × List Byte :=
  let entries := s.tables.readEntries id first count
  if entries.length + 3 ≤ 240 then (.done, [u8 id.code, u8 first, u8 count] ++ entries) else (.badRange, [])

/-! ### Bay actions (R22 to R24) -/

/-- POWER_ON (R23): the state after it, and the reply's status. -/
def State.actPowerOn (s : State) (b : BayId) : State × Status :=
  match s.bays[b].state with
  | .presentOff => ((s.enterQueued b).consider, .done)
  | .parked => ((s.enterQueued b).consider, .done)
  | .queued => (s, .done)
  | .ramping => (s, .done)
  | .powered => (s, .done)
  | _ => (s, .refused)

/-- POWER_OFF (R23). -/
def State.actPowerOff (s : State) (b : BayId) : State × Status :=
  match s.bays[b].state with
  | .presentOff => (s.enterParked b, .done)
  | .queued => ((s.leaveQueue b).enterParked b, .done)
  | .ramping => ((s.enterRemoving b false).consider, .done)
  | .powered => ((s.enterRemoving b false).consider, .done)
  | .removing => (s.setBay b { s.bays[b] with shedParked := false }, .done)
  | .parked => (s.setBay b { s.bays[b] with shedParked := false }, .done)
  | .powerFault => (s.enterParked b, .done)
  | _ => (s, .refused)

/-- CLEAR_LOCKOUT (R22, R23). -/
def State.actClearLockout (s : State) (b : BayId) : State × Status :=
  match s.bays[b].state with
  | .lockedOut => (s.setBay b { s.bays[b] with state := .presentOff, retryCount := 0 }, .done)
  | _ => (s, .refused)

/-- The action's effect on the bay (R23, R24). -/
def State.act (s : State) (b : BayId) : BayAction → State × Status
  | .powerOn => s.actPowerOn b
  | .powerOff => s.actPowerOff b
  | .clearLockout => s.actClearLockout b
  | .identifyOn => (s.setBay b { s.bays[b] with identify := true }, .done)
  | .identifyOff => (s.setBay b { s.bays[b] with identify := false }, .done)
  | .markSet n => (s.setBay b { s.bays[b] with marks := s.bays[b].marks.set n true }, .done)
  | .markClear n => (s.setBay b { s.bays[b] with marks := s.bays[b].marks.set n false }, .done)

/-! ### Temperature reports (R61, R62) -/

/-- The bay of this part that a slot is mapped to, in the bay map in force (R61). -/
def State.bayOfSlot (s : State) (slot : Byte) : Option BayId :=
  (List.finRange 24).find? fun b =>
    match s.tables.bayMap[b] with
    | some k => k.val == slot.toNat
    | none => false

/-- One pair of a report applied (R61, R62). -/
def State.applyPair (s : State) (pair : Byte × Byte) : State :=
  match s.bayOfSlot pair.1 with
  | none => s
  | some b =>
    if s.bays[b].state = .powered then
      if pair.2 = 255 then s.setDrive b Drive.clear
      else s.setDrive b { state := .valid, value := some (min 125 pair.2.toNat), reportTime := some s.now }
    else s

/-- The pairs of a report, in the order they stand (R61). -/
def State.applyReport (s : State) (pairs : List (Byte × Byte)) : State := pairs.foldl State.applyPair s

/-! ### Line sets (R125) -/

/-- A line at a LINE SET: `some level` is mode MANUAL, `none` mode ENGINE (R125). -/
def Line.set (l : Line) (manual : Option Bool) : Line := { l with manual := manual, driven := manual.getD l.engine }

/-- The named lines of the named bays, in one transition (R125). -/
def State.setLines (s : State) (bays : BitVec 24) (lineA lineB : Bool) (manual : Option Bool) : State :=
  { s with
    len := { s.len with
      lineA := Vector.ofFn fun b => if bays.getLsbD b.val && lineA then (s.len.lineA[b]).set manual else s.len.lineA[b]
      lineB := Vector.ofFn fun b => if bays.getLsbD b.val && lineB then (s.len.lineB[b]).set manual else s.len.lineB[b] } }

/-! ### Serving a request (R167) -/

/-- The record of a selector (R174). -/
def State.record (s : State) : Selector → List Byte
  | .summary => s.summaryRecord
  | .bays first count => s.baysRecord first count
  | .sources => s.sourcesRecord
  | .fans => s.fansRecord
  | .zones => s.zonesRecord
  | .lines => s.linesRecord

/-- The selector's record holds a free value, so that the counter moves on (log 4). -/
def Selector.readsFree : Selector → Bool
  | .bays _ _ => true
  | .zones => true
  | _ => false

/-- The free value counter after a record of the selector is read. -/
def State.readFree (s : State) (sel : Selector) : State := if sel.readsFree then { s with freeCount := s.freeCount + 1 } else s

/-- A RESTART of the QUIESCED form is taken (R178): the flag set, the time recorded, and quiesce reached at once where no bay is RAMPING or
REMOVING (R49). -/
def State.startQuiesce (s : State) (tag : Byte) : State :=
  State.reportQuiesce
    { s with
      psq := { s.psq with quiescePending := true }
      mru := { s.mru with state := .quiescing tag s.now } }

/-- The configuration save begins (R180, R192): its erase is about to be sent (log 40). -/
def State.startSave (s : State) : State :=
  { s with
    mru := { s.mru with saveInProgress := true }
    cmp := { s.cmp with state := .saving (saveWrites s.tables), waitStart := none } }

/-- A request that passed the discipline is carried out, and its reply is made ready (R167). -/
def State.serve (s : State) (tag : Byte) : Request → State
  | .invalid status => s.reply tag status []
  | .tableRead id first count => s.reply tag (s.readTable id first count).1 (s.readTable id first count).2
  | .tableWrite id first count bytes =>
    let (s1, status, payload) := s.writeTable id first count bytes
    s1.reply tag status payload
  | .bayAction b a =>
    let (s1, status) := s.act b a
    s1.reply tag status [u8 b.val, u8 s1.bays[b].state.code]
  | .temperatureReport pairs => (s.applyReport pairs).reply tag .done []
  | .statusRead sel => (s.readFree sel).reply tag .done (s.record sel)
  | .attentionClear kinds =>
    State.reply { s with mru := { s.mru with attention := s.mru.attention &&& ~~~kinds } } tag .done []
  | .lineSet bays lineA lineB manual => (s.setLines bays lineA lineB manual).reply tag .done []
  | .restart .immediate => s.finishRestart tag
  | .restart .quiesced => s.startQuiesce tag
  | .configSave => s.startSave.reply tag .done []

/-- A request is handed to the MRU (R168): BUSY while it holds a RESTART, or while a save is in progress unless it is a read; else it is served. From a
reset until the next completion no request reaches the MRU (R181). -/
def State.hand (s : State) (tag : Byte) (kind : RequestKind) (r : Request) : State :=
  if s.phase = .running then
    if s.mru.state = .idle ∧ (s.mru.saveInProgress = false ∨ kind.reads) then s.serve tag r else s.reply tag .busy []
  else s

/-- A TEMPERATURE REPORT sent to ALL is handed to the MRU (R172): applied in every MRU state, never replied to, discarded where faulty. -/
def State.handAll (s : State) (r : Request) : State :=
  if s.phase = .running then
    match r with
    | .temperatureReport pairs => s.applyReport pairs
    | _ => s
  else s

/-! ### The meanings -/

/-- TABLE_READ (R169). -/
def execTableRead (tag table first count : Byte) (s : State) : Host.Outcome State Fault Refusal :=
  .next (s.hand tag .tableRead (tableReadRequest table first count))

/-- TABLE_WRITE (R170). -/
def execTableWrite (tag table first count : Byte) (entries : List Byte) (s : State) : Host.Outcome State Fault Refusal :=
  .next (s.hand tag .tableWrite (tableWriteRequest table first count entries))

/-- POWER_ON (R23). -/
def execPowerOn (tag bay : Byte) (s : State) : Host.Outcome State Fault Refusal :=
  .next (s.hand tag .bayAction (bayActionRequest bay 1 0))

/-- POWER_OFF (R23). -/
def execPowerOff (tag bay : Byte) (s : State) : Host.Outcome State Fault Refusal :=
  .next (s.hand tag .bayAction (bayActionRequest bay 2 0))

/-- CLEAR_LOCKOUT (R22, R23). -/
def execClearLockout (tag bay : Byte) (s : State) : Host.Outcome State Fault Refusal :=
  .next (s.hand tag .bayAction (bayActionRequest bay 3 0))

/-- IDENTIFY_ON (R24). -/
def execIdentifyOn (tag bay : Byte) (s : State) : Host.Outcome State Fault Refusal :=
  .next (s.hand tag .bayAction (bayActionRequest bay 4 0))

/-- IDENTIFY_OFF (R24). -/
def execIdentifyOff (tag bay : Byte) (s : State) : Host.Outcome State Fault Refusal :=
  .next (s.hand tag .bayAction (bayActionRequest bay 5 0))

/-- MARK_SET (R24). -/
def execMarkSet (tag bay mark : Byte) (s : State) : Host.Outcome State Fault Refusal :=
  .next (s.hand tag .bayAction (bayActionRequest bay 6 mark))

/-- MARK_CLEAR (R24). -/
def execMarkClear (tag bay mark : Byte) (s : State) : Host.Outcome State Fault Refusal :=
  .next (s.hand tag .bayAction (bayActionRequest bay 7 mark))

/-- TEMPERATURE_REPORT (R61, R172). -/
def execTemperatureReport (toAll : Bool) (tag : Byte) (pairs : List (Byte × Byte)) (s : State) : Host.Outcome State Fault Refusal :=
  if toAll then .next (s.handAll (temperatureReportRequest pairs))
  else .next (s.hand tag .temperatureReport (temperatureReportRequest pairs))

/-- STATUS_READ_SUMMARY (R175). -/
def execStatusReadSummary (tag : Byte) (s : State) : Host.Outcome State Fault Refusal :=
  .next (s.hand tag .statusRead (.statusRead .summary))

/-- STATUS_READ_BAYS (R174). -/
def execStatusReadBays (tag first count : Byte) (s : State) : Host.Outcome State Fault Refusal :=
  .next (s.hand tag .statusRead (statusReadBaysRequest first count))

/-- STATUS_READ_SOURCES (R69). -/
def execStatusReadSources (tag : Byte) (s : State) : Host.Outcome State Fault Refusal :=
  .next (s.hand tag .statusRead (.statusRead .sources))

/-- STATUS_READ_FANS (R93). -/
def execStatusReadFans (tag : Byte) (s : State) : Host.Outcome State Fault Refusal :=
  .next (s.hand tag .statusRead (.statusRead .fans))

/-- STATUS_READ_ZONES (R93, R109). -/
def execStatusReadZones (tag : Byte) (s : State) : Host.Outcome State Fault Refusal :=
  .next (s.hand tag .statusRead (.statusRead .zones))

/-- STATUS_READ_LINES (R127). -/
def execStatusReadLines (tag : Byte) (s : State) : Host.Outcome State Fault Refusal :=
  .next (s.hand tag .statusRead (.statusRead .lines))

/-- ATTENTION_CLEAR (R177). -/
def execAttentionClear (tag : Byte) (kinds : BitVec 16) (s : State) : Host.Outcome State Fault Refusal :=
  .next (s.hand tag .attentionClear (attentionClearRequest kinds))

/-- LINE_SET_MANUAL (R125, R126). -/
def execLineSetManual (tag : Byte) (baySet : BitVec 32) (lines level : Byte) (s : State) : Host.Outcome State Fault Refusal :=
  .next (s.hand tag .lineSet (lineSetRequest baySet lines 1 level))

/-- LINE_SET_ENGINE (R125, R126). -/
def execLineSetEngine (tag : Byte) (baySet : BitVec 32) (lines level : Byte) (s : State) : Host.Outcome State Fault Refusal :=
  .next (s.hand tag .lineSet (lineSetRequest baySet lines 0 level))

/-- RESTART_IMMEDIATE (R178). -/
def execRestartImmediate (tag : Byte) (s : State) : Host.Outcome State Fault Refusal :=
  .next (s.hand tag .restart (.restart .immediate))

/-- RESTART_QUIESCED (R178). -/
def execRestartQuiesced (tag : Byte) (s : State) : Host.Outcome State Fault Refusal :=
  .next (s.hand tag .restart (.restart .quiesced))

/-- QUIESCE_LIMIT (R178): 60 s after the taking, a QUIESCING MRU makes its reply ready. -/
def execQuiesceLimit (s : State) : Host.Outcome State Fault Refusal :=
  match s.mru.state with
  | .quiescing tag taken => if taken + Config.quiesceLimitMs ≤ s.now then .next (s.finishRestart tag) else .next s
  | _ => .next s

/-- CONFIG_SAVE (R180). -/
def execConfigSave (tag : Byte) (s : State) : Host.Outcome State Fault Refusal := .next (s.hand tag .configSave .configSave)

/-- UNKNOWN_KIND (R167): a request of an undefined kind, answered BUSY or UNKNOWN_KIND. -/
def execUnknownKind (tag _kind : Byte) (s : State) : Host.Outcome State Fault Refusal :=
  .next (s.hand tag .undefined (.invalid .unknownKind))

end Sys2Proof.Machine
end

