-- ==== Sys2Proof/Machine/Link.lean ====
section
/-! DEFINITION. The upstream link family (chapters 7 and 8): training words, frames on the upstream input, the link's timers, and the end of a frame on
the return lane. -/

namespace Sys2Proof.Machine

/-- TRAINING_WORD (R134 to R139, R143). In DISABLED, and in ALIGNED before the first valid frame is taken there, it is ignored. -/
def execTrainingWord (kind : TrainKind) (hop : BitVec 4) (s : State) : Host.Outcome State Fault Refusal :=
  match s.liu.link with
  | .disabled => .next s
  | .training => .next (s.continueTraining kind hop)
  | .aligned => if s.liu.frameTaken then .next (s.startTraining kind hop).replyLost else .next s
  | _ => .next (s.startTraining kind hop).replyLost

/-- TRAINING_INTERRUPTED (R135). -/
def execTrainingInterrupted (s : State) : Host.Outcome State Fault Refusal :=
  if s.liu.link = .training then .next { s with liu := s.liu.interruptTraining } else .next s

/-- UPSTREAM_BAD_FRAME (R132, R141): discarded whole; in ALIGNED and SILENT it adds 8 to the error count, held at 256, and 256 takes the link to FAULT
(R139). In TRAINING the start word it began with ends the training (R135). -/
def execUpstreamBadFrame (s : State) : Host.Outcome State Fault Refusal :=
  if s.liu.link = .training then .next { s with liu := s.liu.interruptTraining }
  else if s.takesFrames then
    let count := min Config.errorFault (s.liu.errorCount + 8)
    let s1 := s.moveErrorCount count
    if count = Config.errorFault then .next s1.enterFault.replyLost else .next s1
  else .next s

/-- A taken sweep (R157): applied when the link is not DEGRADED (R155, R142), and then forwarded and recorded, or answered. -/
def State.takeSweep (s : State) (number : Byte) (slots : Slots) : State :=
  let s1 := if s.liu.errorCount < Config.errorDegraded then s.applySweep slots else s
  if s1.liu.port = .aligned then
    let s2 := s1.appendOutstanding number
    { s2 with liu := s2.liu.forward (.sweep number slots) }
  else s1.originate number

/-- UPSTREAM_SWEEP (R157). -/
def execUpstreamSweep (number : Byte) (slots : Slots) (s : State) : Host.Outcome State Fault Refusal :=
  let s1 := s.acceptFrame
  if s.takesFrames then .next (s1.takeSweep number slots).resumeDown else .next s1

/-- The target byte of ALL (R196). -/
def targetAll : Byte := 0xFF

/-- The LIU answers UNREACHABLE itself, with the request's tag and its own position (R148). -/
def State.unreachable (s : State) (tag : Byte) : State := s.reply tag .unreachable []

/-- A taken request, routed by its target (R148, R197). -/
def State.routeRequest (s : State) (target tag kind : Byte) (payload : List Byte) : State :=
  let forwarded (t : State) : State := { t with liu := t.liu.forward (.request target tag kind payload) }
  let k := RequestKind.ofByte kind
  if target = targetAll then
    if k = .temperatureReport then
      let s1 := s.handAll (decodeRequest k payload)
      if s.liu.port = .aligned then forwarded s1 else s1
    else s
  else
    match s.liu.position with
    | none => s
    | some p =>
      if target.toNat = p.val then s.hand tag k (decodeRequest k payload)
      else if p.val < target.toNat ∧ target.toNat < 4 then
        if s.liu.port = .aligned then forwarded s else s.unreachable tag
      else s

/-- UPSTREAM_REQUEST (R148). -/
def execUpstreamRequest (target tag kind : Byte) (payload : List Byte) (s : State) : Host.Outcome State Fault Refusal :=
  let s1 := s.acceptFrame
  if s.takesFrames then .next (s1.routeRequest target tag kind payload).resumeDown else .next s1

/-- UPSTREAM_FILL (R141, R148): a FILL, RETURN or REPLY counts as a valid frame and is discarded. -/
def execUpstreamFill (s : State) : Host.Outcome State Fault Refusal :=
  if s.takesFrames then .next s.acceptFrame.resumeDown else .next s.acceptFrame

/-- SILENCE_TIMEOUT (R137): ALIGNED to SILENT. -/
def execSilenceTimeout (s : State) : Host.Outcome State Fault Refusal :=
  if s.liu.link = .aligned ∧ elapsed s.liu.silenceStart Config.silenceMs s.now then
    .next { s with liu := { s.liu with link := .silent } }
  else .next s

/-- AUTONOMY_TIMEOUT (R137, R138): SILENT to LOST; the return lane goes idle and its frames are discarded. -/
def execAutonomyTimeout (s : State) : Host.Outcome State Fault Refusal :=
  if s.liu.link = .silent ∧ s.autonomyPassed then
    .next (State.becomeLost { s with liu := { s.liu.clearUp with link := .lost } }).replyLost
  else .next s

/-- LOST_LATCH_SET (R139): the autonomy timeout passes in FAULT. -/
def execLostLatchSet (s : State) : Host.Outcome State Fault Refusal :=
  if s.liu.link = .fault ∧ s.liu.lostLatch = false ∧ s.autonomyPassed then
    .next (State.becomeLost { s with liu := { s.liu with lostLatch := true } })
  else .next s

/-- RETURN_LANE_FRAME_END (R149): the lane takes its next frame; the end of a RESTART's reply brings the controller reset (R178). A lane that carries no
frame has none to end. -/
def execReturnLaneFrameEnd (s : State) : Host.Outcome State Fault Refusal :=
  if s.liu.link.carriesFrames then
    match s.liu.upLane with
    | .idle => .next s
    | .training _ _ => .next s
    | .reply r => if r.restart then .next (State.replyLost { s with liu := s.liu.nextUp }) else .next { s with liu := s.liu.nextUp }
    | .ret _ => .next { s with liu := s.liu.nextUp }
    | .fill => .next { s with liu := s.liu.nextUp }
  else .next s

end Sys2Proof.Machine
end

