-- ==== Sys2Proof/Machine/Resets.lean ====
section
/-! DEFINITION. The reset family: POWER_ON_RESET, CONTROLLER_RESET, RSTN_RELEASE, LOAD_COMPLETION and RSTN_PULSE_DURING_POWER_ON_LOAD (chapter 10). -/

namespace Sys2Proof.Machine

/-- The contents a power loss leaves in the memory: a write in flight may or may not have landed, byte by byte (log 5). -/
def Cmp.cutOff (c : Cmp) (count : Nat) : Memory :=
  match c.sentWrite with
  | some w => Memory.writeLanding (Config.failedByteLands count) c.mem w.offset w.bytes
  | none => c.mem

/-- Every block at its power-on values (R188). What lies outside the part stays: the memory's contents and what it and its bus answer, the levels on the
input pins and the readings of the THERM inputs; the model's time base and free value counter run on. -/
def State.powerOnReset (s : State) : State :=
  { State.reset with
    tb := { State.reset.tb with now := s.now }
    inputs := Vector.ofFn fun b =>
      { BayInput.initial with presPin := s.inputs[b].presPin, pgPin := s.inputs[b].pgPin, fltPin := s.inputs[b].fltPin }
    therm := s.therm
    cmp := { Cmp.initial with
      mem := s.cmp.cutOff s.freeCount, answersFrom := s.cmp.answersAfterReset s.freeCount, heldLow := s.cmp.heldLow }
    freeCount := s.freeCount + 1
    pending := s.pending }

/-- POWER_ON_RESET (R188). -/
def execPowerOnReset (s : State) : Host.Outcome State Fault Refusal := .next s.powerOnReset

/-- CONTROLLER_RESET (R189, R190): RSTn driven low after the start of the part, also while a controller reset's load is running. Before the start, and
while RSTn is low already, it does not arise. -/
def execControllerReset (s : State) : Host.Outcome State Fault Refusal :=
  match s.phase with
  | .running => .next (s.controllerReset true)
  | .resetLoad => .next (s.controllerReset true)
  | _ => .next s

/-- The CMP begins the load, and with it the wait for the memory's acknowledge (R182). -/
def Cmp.beginLoad (c : Cmp) (now : Nat) : Cmp := { c with waitStart := some now, readStart := none }

/-- RSTN_RELEASE (R188, R189): RSTn high again, with the supply good, starts the load that waits for it. -/
def execRstnRelease (s : State) : Host.Outcome State Fault Refusal :=
  match s.phase with
  | .powerOnHold => .next { s with phase := .powerOnLoad, rstn := true, cmp := s.cmp.beginLoad s.now }
  | .resetHold => .next { s with phase := .resetLoad, rstn := true, cmp := s.cmp.beginLoad s.now }
  | _ => .next s

/-- LOAD_COMPLETION (R187): the start of the part (R188), or restart completion (R189). With no load running it does not arise. -/
def execLoadCompletion (memoryFailure : Bool) (s : State) : Host.Outcome State Fault Refusal :=
  match s.phase with
  | .powerOnLoad => .next (s.install memoryFailure).startPart
  | .resetLoad => .next ((s.install memoryFailure).finishReset s.tables.fans)
  | _ => .next s

/-- RSTN_PULSE_DURING_POWER_ON_LOAD (R188): the load is abandoned, and starts again when RSTn returns high. -/
def execRstnPulseDuringPowerOnLoad (s : State) : Host.Outcome State Fault Refusal :=
  match s.phase with
  | .powerOnLoad => .next { s with phase := .powerOnHold, rstn := false, cmp := { s.cmp with waitStart := none, readStart := none } }
  | _ => .next s

end Sys2Proof.Machine
end

