-- ==== Sys2Proof/Machine/Save.lean ====
section
/-! DEFINITION. The save family (section 10.5): SAVE_WRITE_ACKNOWLEDGED and SAVE_FAILED. -/

namespace Sys2Proof.Machine

/-! ### Transfers on CMSCL and CMSDA -/

/-- The configuration memory's 7-bit device address (R182). -/
def memoryAddress : BitVec 7 := 0x56

/-- What passes on the bus in a transfer: a start or repeated start, a byte that the CMP sends, or a byte of the memory that the CMP reads and acknowledges or not (R182). -/
inductive BusItem where
  | start
  | sent (b : Byte)
  | read (b : Byte) (acknowledged : Bool)
  deriving DecidableEq, Repr

/-- The device address with the write direction, after a start (R182). The direction is the lowest bit of the address byte, 0 for a write and 1 for a read (log 30). -/
def addressWrite : List BusItem := [.start, .sent (memoryAddress ++ (0 : BitVec 1))]

/-- The device address with the read direction, after a repeated start (R182). -/
def addressRead : List BusItem := [.start, .sent (memoryAddress ++ (1 : BitVec 1))]

/-- A write transfer: the device address with the write direction, two offset bytes with the most significant first, and the data (R182). -/
def writeTransfer (offset : Nat) (bytes : List Byte) : List BusItem := addressWrite ++ (u16 offset ++ bytes).map .sent

/-- The data bytes of a read transfer as the CMP takes them: it acknowledges each but the last (R182). -/
def readData : List Byte → List BusItem
  | [] => []
  | [b] => [.read b false]
  | b :: rest => .read b true :: readData rest

/-- A read transfer: the device address with the write direction and the two offset bytes; then, after a repeated start, the device address with the read direction and the
data bytes of successive offsets (R182). -/
def readTransfer (m : Memory) (offset count : Nat) : List BusItem :=
  writeTransfer offset [] ++ addressRead ++ readData (Memory.readBytes m offset count)

/-! ### The CMP's timers (R182) -/

/-- The memory acknowledges its address now, if the CMP sends it: it is ready, and its bus is free (R182). -/
def Cmp.acknowledges (c : Cmp) (now : Nat) : Bool := reached c.answersFrom now && !reached c.heldLow now

/-- The wait that began then is answered now: the memory acknowledges, within the 10 ms (R182). -/
def Cmp.answered (c : Cmp) (start now : Nat) : Bool := decide (now ≤ start + Config.acknowledgeMs) && c.acknowledges now

/-- The wait that began then is over without an answer (R182). -/
def Cmp.unanswered (c : Cmp) (start now : Nat) : Bool := decide (start + Config.acknowledgeMs ≤ now) && !c.answered start now

/-- A memory failure falls due (R182): a line has been held low for 25 ms; a wait of 10 ms has found no acknowledge; or, as the erase of a save is to be sent on a free bus, the
memory does not acknowledge the address of the transfer, for which no rule has a wait. DESIGN CHOICE (log 40): a transfer takes no time, so a wait begins when its write is sent. -/
def Cmp.memoryFails (c : Cmp) (now : Nat) : Bool :=
  match c.state, c.waitStart with
  | .idle, _ => false
  | .loading, none => false
  | .loading, some start => elapsed c.heldLow Config.stuckBusMs now || (c.readStart.isNone && c.unanswered start now)
  | .saving _, none => elapsed c.heldLow Config.stuckBusMs now || (!reached c.answersFrom now && !reached c.heldLow now)
  | .saving _, some start => elapsed c.heldLow Config.stuckBusMs now || c.unanswered start now

/-- The reading of a load is over at a tick, and with it the load (R187): 100 ms after the load began, or, where the reading stops at the marker or the version, 5 ms after the memory
acknowledged. DESIGN CHOICE (log 40): these are the longest times; a load of a bad length, of a bad check or of fewer tables is held to the 100 ms too. It may be over sooner, as the row. -/
def Cmp.readEnds (c : Cmp) (now : Nat) : Bool :=
  match c.readStart with
  | some read => elapsed c.waitStart Config.loadMaxMs now || (decide (imageReadCount c.mem ≤ 3) && decide (read + Config.shortLoadMs ≤ now))
  | none => false

/-- The memory's acknowledge of the write sent falls due at a tick: its longest internal write cycle is over, and it acknowledges (R192). It may come sooner, as the row. -/
def Cmp.acknowledgeDue (c : Cmp) (now : Nat) : Bool :=
  match c.waitStart with
  | some start => decide (start + Config.writeCycleMaxMs ≤ now) && c.answered start now
  | none => false

/-- What the CMP does at a tick where the memory acknowledges (R182): the reading of a load begins; the erase of a save is sent, first at the tick after the save began. DESIGN
CHOICE (log 40): no rule says when either address is first sent, and R193 has a reset before the erase is sent. -/
def Cmp.atTick (c : Cmp) (now : Nat) : Cmp :=
  match c.state, c.waitStart with
  | .loading, some start => if c.readStart.isNone && c.answered start now then { c with readStart := some now } else c
  | .saving _, none => if c.acknowledges now then { c with waitStart := some now } else c
  | _, _ => c

/-- The transfers that the CMP begins on the bus at the tick of this time (R182); none passes on a bus that is held low. In the wait of a load it sends the device address, and where
the memory acknowledges, it reads the image. With the erase of a save still to be sent it sends it, of which the address alone where the memory does not acknowledge; in the wait
after a write it sends the device address. PRESUMED (log 30): the address of a wait has the write direction, and is listed once for the tick. DEDUCED (log 30): the image is read in one transfer. -/
def Cmp.tickTransfers (c : Cmp) (now : Nat) : List (List BusItem) :=
  if reached c.heldLow now then []
  else
    match c.state, c.waitStart with
    | .loading, some start =>
      if c.readStart.isSome || decide (start + Config.acknowledgeMs < now) then []
      else if c.acknowledges now then [addressWrite, readTransfer c.mem 0 (imageReadCount c.mem)]
      else [addressWrite]
    | .saving (w :: _), none => if c.acknowledges now then [writeTransfer w.offset w.bytes] else [addressWrite]
    | .saving (_ :: _), some start => if start + Config.acknowledgeMs < now then [] else [addressWrite]
    | _, _ => []

/-- The transfer that the CMP begins where the memory acknowledges the write in front of a save: the next write, if there is one (R192). -/
def Cmp.acknowledgeTransfers (c : Cmp) : List (List BusItem) :=
  match c.state with
  | .saving (_ :: w :: _) => [writeTransfer w.offset w.bytes]
  | _ => []

/-! ### The steps of a save -/

/-- The save ends: the CMP is IDLE, the save-in-progress flag clear, and the kind raised (R180, R192, R193). -/
def State.endSave (s : State) (mem : Memory) (k : AttentionKind) : State :=
  State.raise
    { s with
      mru := { s.mru with saveInProgress := false }
      cmp := { s.cmp with state := .idle, mem := mem, waitStart := none } }
    k

/-- The memory's acknowledge can come: a write was sent, at most 10 ms ago, and the memory acknowledges (R182). -/
def Cmp.inTime (c : Cmp) (now : Nat) : Bool :=
  match c.waitStart with
  | some start => c.answered start now
  | none => false

/-- SAVE_WRITE_ACKNOWLEDGED (R182, R192): the write sent is in the memory, and the CMP sends the next; after the last, the save is done. Before a write is sent, after
the 10 ms of its wait, and on a bus or of a memory that carries no acknowledge, it does not arise (log 9). -/
def execSaveWriteAcknowledged (s : State) : Host.Outcome State Fault Refusal :=
  if s.cmp.inTime s.now then
    match s.cmp.state with
    | .saving (w :: w' :: rest) =>
      .next
        { s with
          cmp := { s.cmp with
            state := .saving (w' :: rest), mem := Memory.writeBytes s.cmp.mem w.offset w.bytes, waitStart := some s.now } }
    | .saving [w] => .next (s.endSave (Memory.writeBytes s.cmp.mem w.offset w.bytes) .saveDone)
    | _ => .next s
  else .next s

/-- What a memory failure leaves of the write sent (R193): a marker erase leaves the previous image untouched; of any other write, which bytes
landed is open (log 5). -/
def Cmp.failWrite (c : Cmp) (count : Nat) : Memory :=
  match c.sentWrite with
  | some w =>
    match w.step with
    | .erase => c.mem
    | _ => Memory.writeLanding (Config.failedByteLands count) c.mem w.offset w.bytes
  | none => c.mem

/-- SAVE_FAILED (R193): a memory failure ends the save; nothing further is written. -/
def execSaveFailed (s : State) : Host.Outcome State Fault Refusal :=
  match s.cmp.state with
  | .saving _ => .next (State.endSave { s with freeCount := s.freeCount + 1 } (s.cmp.failWrite s.freeCount) .saveFailed)
  | _ => .next s

end Sys2Proof.Machine
end

