-- ==== Sys2Proof/Machine/Sequencer.lean ====
section
/-! DEFINITION. The sequencer family (chapter 2): STAGGER_EXPIRY, SHED_DELAY_REACHED and SHED_INTERVAL_REACHED. -/

namespace Sys2Proof.Machine

/-- STAGGER_EXPIRY (R41): the timer stands expired, which is a consideration. Between a controller reset and restart completion none is taken. -/
def execStaggerExpiry (s : State) : Host.Outcome State Fault Refusal :=
  if s.phase = .running ∧ s.staggerExpires then
    .next (State.consider { s with psq := { s.psq with stagger := none } })
  else .next s

/-- In DELAY the zone's shed delay has passed since SHED was set (R50). -/
def State.shedDelayPassed (s : State) (z : ZoneId) : Bool :=
  match s.psq.shed[z] with
  | .delay t => decide (t + s.tables.zones[z].shedDelay * 1000 ≤ s.now)
  | _ => false

/-- In INTERVAL the zone's shed interval has passed since the last shed (R50). -/
def State.shedIntervalPassed (s : State) (z : ZoneId) : Bool :=
  match s.psq.shed[z] with
  | .interval t => decide (t + s.tables.zones[z].shedInterval * 1000 ≤ s.now)
  | _ => false

/-- SHED_DELAY_REACHED (R50, R51): a shed falls due; the charges it releases are a consideration (R44). -/
def execShedDelayReached (z : ZoneId) (s : State) : Host.Outcome State Fault Refusal :=
  if s.phase = .running ∧ s.shedDelayPassed z then .next ((s.shedDue z).afterBay (s.shedCandidate z).isSome) else .next s

/-- SHED_INTERVAL_REACHED (R50, R51): a shed falls due; the charges it releases are a consideration (R44). -/
def execShedIntervalReached (z : ZoneId) (s : State) : Host.Outcome State Fault Refusal :=
  if s.phase = .running ∧ s.shedIntervalPassed z then .next ((s.shedDue z).afterBay (s.shedCandidate z).isSome) else .next s

end Sys2Proof.Machine
end

