-- ==== Sys2Proof/Machine/Dispatch.lean ====
section
/-! DEFINITION. One arm per command: the direct call of its meaning. -/

namespace Sys2Proof.Machine

def exec (i : Instr) (s : State) : Host.Outcome State Fault Refusal :=
  match i with
  | .powerOnReset => Sys2Proof.Machine.execPowerOnReset s
  | .controllerReset => Sys2Proof.Machine.execControllerReset s
  | .rstnRelease => Sys2Proof.Machine.execRstnRelease s
  | .loadCompletion memoryFailure => Sys2Proof.Machine.execLoadCompletion memoryFailure s
  | .qualifiedInsertion b => Sys2Proof.Machine.execQualifiedInsertion b s
  | .settlingBounce b => Sys2Proof.Machine.execSettlingBounce b s
  | .insertionDebounceExpiry b => Sys2Proof.Machine.execInsertionDebounceExpiry b s
  | .qualifiedRemoval b => Sys2Proof.Machine.execQualifiedRemoval b s
  | .qualifiedFltAssertion b => Sys2Proof.Machine.execQualifiedFltAssertion b s
  | .qualifiedPgDeassertion b => Sys2Proof.Machine.execQualifiedPgDeassertion b s
  | .qualifiedPgAssertion b => Sys2Proof.Machine.execQualifiedPgAssertion b s
  | .pgDeadline b => Sys2Proof.Machine.execPgDeadline b s
  | .rampDeadline b => Sys2Proof.Machine.execRampDeadline b s
  | .drainExpiry b => Sys2Proof.Machine.execDrainExpiry b s
  | .backoffExpiry b => Sys2Proof.Machine.execBackoffExpiry b s
  | .staggerExpiry => Sys2Proof.Machine.execStaggerExpiry s
  | .shedDelayReached z => Sys2Proof.Machine.execShedDelayReached z s
  | .shedIntervalReached z => Sys2Proof.Machine.execShedIntervalReached z s
  | .controlPeriodEnd => Sys2Proof.Machine.execControlPeriodEnd s
  | .fanGraceExpiry f => Sys2Proof.Machine.execFanGraceExpiry f s
  | .tachEdge f => Sys2Proof.Machine.execTachEdge f s
  | .sensorConversion k reading => Sys2Proof.Machine.execSensorConversion k reading s
  | .driveAgeExpiry b => Sys2Proof.Machine.execDriveAgeExpiry b s
  | .activityStretchExpiry b => Sys2Proof.Machine.execActivityStretchExpiry b s
  | .lightTick => Sys2Proof.Machine.execLightTick s
  | .trainingWord kind hop => Sys2Proof.Machine.execTrainingWord kind hop s
  | .trainingInterrupted => Sys2Proof.Machine.execTrainingInterrupted s
  | .upstreamBadFrame => Sys2Proof.Machine.execUpstreamBadFrame s
  | .upstreamSweep number slots => Sys2Proof.Machine.execUpstreamSweep number slots s
  | .upstreamRequest target tag kind payload => Sys2Proof.Machine.execUpstreamRequest target tag kind payload s
  | .upstreamFill => Sys2Proof.Machine.execUpstreamFill s
  | .silenceTimeout => Sys2Proof.Machine.execSilenceTimeout s
  | .autonomyTimeout => Sys2Proof.Machine.execAutonomyTimeout s
  | .lostLatchSet => Sys2Proof.Machine.execLostLatchSet s
  | .probeAnswer kind hop => Sys2Proof.Machine.execProbeAnswer kind hop s
  | .probeTimeout => Sys2Proof.Machine.execProbeTimeout s
  | .probeRetry => Sys2Proof.Machine.execProbeRetry s
  | .returnWatchTimeout => Sys2Proof.Machine.execReturnWatchTimeout s
  | .downstreamReturn number attention originator slots => Sys2Proof.Machine.execDownstreamReturn number attention originator slots s
  | .downstreamReply source tag status payload => Sys2Proof.Machine.execDownstreamReply source tag status payload s
  | .downstreamOtherFrame => Sys2Proof.Machine.execDownstreamOtherFrame s
  | .downstreamBadFrame => Sys2Proof.Machine.execDownstreamBadFrame s
  | .outstandingDeadline => Sys2Proof.Machine.execOutstandingDeadline s
  | .returnLaneFrameEnd => Sys2Proof.Machine.execReturnLaneFrameEnd s
  | .downstreamLaneFrameEnd => Sys2Proof.Machine.execDownstreamLaneFrameEnd s
  | .tableRead tag table first count => Sys2Proof.Machine.execTableRead tag table first count s
  | .tableWrite tag table first count entries => Sys2Proof.Machine.execTableWrite tag table first count entries s
  | .powerOn tag bay => Sys2Proof.Machine.execPowerOn tag bay s
  | .powerOff tag bay => Sys2Proof.Machine.execPowerOff tag bay s
  | .clearLockout tag bay => Sys2Proof.Machine.execClearLockout tag bay s
  | .identifyOn tag bay => Sys2Proof.Machine.execIdentifyOn tag bay s
  | .identifyOff tag bay => Sys2Proof.Machine.execIdentifyOff tag bay s
  | .markSet tag bay mark => Sys2Proof.Machine.execMarkSet tag bay mark s
  | .markClear tag bay mark => Sys2Proof.Machine.execMarkClear tag bay mark s
  | .temperatureReport toAll tag pairs => Sys2Proof.Machine.execTemperatureReport toAll tag pairs s
  | .statusReadSummary tag => Sys2Proof.Machine.execStatusReadSummary tag s
  | .statusReadBays tag first count => Sys2Proof.Machine.execStatusReadBays tag first count s
  | .statusReadSources tag => Sys2Proof.Machine.execStatusReadSources tag s
  | .statusReadFans tag => Sys2Proof.Machine.execStatusReadFans tag s
  | .statusReadZones tag => Sys2Proof.Machine.execStatusReadZones tag s
  | .statusReadLines tag => Sys2Proof.Machine.execStatusReadLines tag s
  | .attentionClear tag kinds => Sys2Proof.Machine.execAttentionClear tag kinds s
  | .lineSetManual tag baySet lines level => Sys2Proof.Machine.execLineSetManual tag baySet lines level s
  | .lineSetEngine tag baySet lines level => Sys2Proof.Machine.execLineSetEngine tag baySet lines level s
  | .restartImmediate tag => Sys2Proof.Machine.execRestartImmediate tag s
  | .restartQuiesced tag => Sys2Proof.Machine.execRestartQuiesced tag s
  | .quiesceLimit => Sys2Proof.Machine.execQuiesceLimit s
  | .configSave tag => Sys2Proof.Machine.execConfigSave tag s
  | .unknownKind tag kind => Sys2Proof.Machine.execUnknownKind tag kind s
  | .saveWriteAcknowledged => Sys2Proof.Machine.execSaveWriteAcknowledged s
  | .saveFailed => Sys2Proof.Machine.execSaveFailed s
  | .rstnPulseDuringPowerOnLoad => Sys2Proof.Machine.execRstnPulseDuringPowerOnLoad s
  | .qualifiedFltDeassertion b => Sys2Proof.Machine.execQualifiedFltDeassertion b s
  | .pwmCycleEnd f => Sys2Proof.Machine.execPwmCycleEnd f s

end Sys2Proof.Machine
end

