-- ==== Sys2Proof/Machine/Timebase.lean ====
section
/-! DEFINITION. The 1 ms tick of the Timebase: what a step does when no command waits (log 1). The tick advances the time, samples the inputs of the bays (R1 to
R3), and puts the events that fall due at it into the queue of commands. The order of the events of one tick is the model's (log 1); the spec gives only that a
bay's faults come first (R14 to R16), that the levels a tick qualifies are read by its deadlines (R1, R14), that a bounce abandons its debounce (R2), and that conversions
complete before their period end (R55). -/

namespace Sys2Proof.Machine

/-! ### Sampling -/

/-- The FLT event of this tick's sample (R1): the second sample of the level opposite to the qualified one; or, in RAMPING, a level already asserted
(R15). -/
def fltEvents (b : BayId) (r : BayRecord) (i : BayInput) : List Instr :=
  if i.fltPin ≠ i.flt ∧ i.fltLast = some i.fltPin then
    (if i.fltPin then [.qualifiedFltAssertion b] else [.qualifiedFltDeassertion b])
  else if i.flt ∧ r.state = .ramping then [.qualifiedFltAssertion b]
  else []

/-- The PG event of this tick's sample (R1). -/
def pgEvents (b : BayId) (i : BayInput) : List Instr :=
  if i.pgPin ≠ i.pg ∧ i.pgLast = some i.pgPin then
    (if i.pgPin then [.qualifiedPgAssertion b] else [.qualifiedPgDeassertion b])
  else []

/-- The removal count after this tick's sample (R3). -/
def countRemoval (r : BayRecord) (i : BayInput) : Nat :=
  if r.state.removable ∧ i.presPin = false then i.removalCount + 1 else 0

/-- The PRES event of this tick's sample (R2, R3). -/
def presEvents (b : BayId) (r : BayRecord) (i : BayInput) (removalDebounce : Nat) : List Instr :=
  match r.state with
  | .empty => if i.presPin ∧ i.presLast = some true then [.qualifiedInsertion b] else []
  | .settling => if i.presPin then [] else [.settlingBounce b]
  | _ => if i.presPin = false ∧ removalDebounce ≤ i.removalCount + 1 then [.qualifiedRemoval b] else []

/-- The sample of this tick, recorded. -/
def BayInput.sampled (i : BayInput) (r : BayRecord) : BayInput :=
  { i with presLast := some i.presPin, pgLast := some i.pgPin, fltLast := some i.fltPin, removalCount := countRemoval r i }

/-! ### What falls due -/

/-- The commands, where the condition holds. -/
def dueIf (c : Bool) (i : Instr) : List Instr := if c then [i] else []

/-- The events of one bay at a tick; faults first, and a removal after them (R14, R16). -/
def State.bayDue (s : State) (b : BayId) : List Instr :=
  fltEvents b s.bays[b] s.inputs[b] ++ pgEvents b s.inputs[b] ++
  dueIf (decide (s.bays[b].state = .ramping) && reached s.bays[b].pgDeadline s.now) (.pgDeadline b) ++
  dueIf (decide (s.bays[b].state = .ramping) && reached s.bays[b].rampDeadline s.now) (.rampDeadline b) ++
  presEvents b s.bays[b] s.inputs[b] s.tables.limits.removalDebounce ++
  dueIf (decide (s.bays[b].state = .settling) && elapsed s.inputs[b].settleStart (s.tables.limits.insertionDebounce * 10) s.now)
    (.insertionDebounceExpiry b) ++
  dueIf (decide (s.bays[b].state = .removing) && reached s.bays[b].drainDeadline s.now) (.drainExpiry b) ++
  dueIf (decide (s.bays[b].state = .powerFault) && reached s.bays[b].backoffDeadline s.now) (.backoffExpiry b) ++
  dueIf (decide (s.drives[b].state = .valid) && elapsed s.drives[b].reportTime (s.tables.link.driveAgeLimit * 1000) s.now)
    (.driveAgeExpiry b) ++
  dueIf (reached s.smap[b].stretch s.now) (.activityStretchExpiry b)

/-- The quiesce limit is reached (R178). -/
def State.quiesceLimitDue (s : State) : Bool :=
  match s.mru.state with
  | .quiescing _ taken => decide (taken + Config.quiesceLimitMs ≤ s.now)
  | _ => false

/-- The events of the LIU's timers at a tick (R137, R139, R145, R162). -/
def State.linkDue (s : State) : List Instr :=
  dueIf s.oldestDue .outstandingDeadline ++
  dueIf (decide (s.liu.link = .aligned) && elapsed s.liu.silenceStart Config.silenceMs s.now) .silenceTimeout ++
  dueIf (decide (s.liu.link = .silent) && s.autonomyPassed) .autonomyTimeout ++
  dueIf (decide (s.liu.link = .fault) && !s.liu.lostLatch && s.autonomyPassed) .lostLatchSet ++
  dueIf (decide (s.liu.port = .probing) && elapsed s.liu.probeStart Config.probeMs s.now) .probeTimeout ++
  dueIf (decide (s.liu.port = .absent) && decide (s.liu.link = .aligned) && reached s.liu.retryDue s.now) .probeRetry ++
  dueIf (decide (s.liu.port = .aligned) && elapsed s.liu.returnWatch Config.returnWatchMs s.now) .returnWatchTimeout

/-- A period end that falls due, behind those of its four conversions that have not completed, each of the reading its THERM input gives: all four complete within the
period (R55). The spec leaves their moments within it open (log 31). -/
def State.periodDue (s : State) : List Instr :=
  if reached s.tb.nextPeriod s.now then
    ((List.finRange 4).filter fun k => decide (s.converted ≤ k.castSucc)).map (fun k => .sensorConversion k s.therm[k]) ++ [.controlPeriodEnd]
  else []

/-- What the memory brings at a tick: to a load its failure or its completion (R182, R187), to a save its failure or the acknowledge of its write (R192, R193). -/
def State.memoryDue (s : State) : List Instr :=
  match s.cmp.state with
  | .loading => if s.cmp.memoryFails s.now then [.loadCompletion true] else dueIf (s.cmp.readEnds s.now) (.loadCompletion false)
  | .saving _ => dueIf (s.cmp.memoryFails s.now) .saveFailed ++ dueIf (s.cmp.acknowledgeDue s.now) .saveWriteAcknowledged
  | .idle => []

/-- Everything that falls due at a tick of a part that samples its inputs. -/
def State.due (s : State) : List Instr :=
  (List.finRange 24).flatMap s.bayDue ++
  dueIf s.quiesceLimitDue .quiesceLimit ++
  s.periodDue ++
  (List.finRange 3).flatMap (fun z =>
    dueIf (s.shedDelayPassed z) (.shedDelayReached z) ++ dueIf (s.shedIntervalPassed z) (.shedIntervalReached z)) ++
  dueIf s.staggerExpires .staggerExpiry ++
  s.linkDue ++
  s.memoryDue ++
  dueIf (reached s.tb.nextLight s.now) .lightTick

/-- One 1 ms tick. Before the start of the part only the time advances and the power-on load's completion falls due. The erase of a save just begun is sent, and the reading of a load
begins where the memory acknowledges. -/
def State.tick (s : State) : State :=
  let s1 : State := { s with tb := { s.tb with now := s.now + 1 } }
  let cmp := s.cmp.atTick (s.now + 1)
  if s.sampling then
    { s1 with
      cmp := cmp
      inputs := Vector.ofFn fun b => (s.inputs[b]).sampled s.bays[b]
      pending := s.pending ++ s1.due }
  else { s1 with cmp := cmp, pending := s.pending ++ s1.memoryDue }

end Sys2Proof.Machine
end

