-- ==== Sys2Proof/Machine/Frames.lean ====
section
/-! DEFINITION. Words and frames of the lanes (R130 to R133, R194 to R196): how a sender encodes a frame, how a receiver finds it, and which command of the
table a received word or frame is. The table's rows are whole frames and words, so the part of a frame received so far is no field of
State (log 10): it is the receiver's, here. -/

namespace Sys2Proof.Machine

/-! ### Words -/

/-- What a receiver takes a word as (R195). -/
inductive WordKind where
  | training (kind : TrainKind) (hop : BitVec 4)
  | start
  | data (byte : Byte)
  deriving DecidableEq, Repr

/-- The high byte of a training word (R194). -/
def trainHigh : TrainKind → Byte
  | .a => 0x3C
  | .b => 0x3D

/-- A training word: the hop in bits 0 to 3, complemented in bits 4 to 7 (R194). -/
def trainingWordOf (k : TrainKind) (hop : BitVec 4) : LinkWord := trainHigh k ++ (~~~hop ++ hop)

/-- The start word (R194). -/
def startWord : LinkWord := 0x7E81

/-- A data word as sent (R194). -/
def dataWord (b : Byte) : LinkWord := (0 : Byte) ++ b

/-- The high byte of a word. -/
def highByte (w : LinkWord) : Byte := w.extractLsb' 8 8

/-- The low byte of a word. -/
def lowByte (w : LinkWord) : Byte := w.extractLsb' 0 8

/-- The hop that a low byte carries twice, or `none` where its halves disagree (R195). -/
def hopOf (b : Byte) : Option (BitVec 4) :=
  if b.extractLsb' 4 4 = ~~~(b.extractLsb' 0 4) then some (b.extractLsb' 0 4) else none

/-- A word as the receiver takes it (R195). -/
def classifyWord (w : LinkWord) : WordKind :=
  if w = startWord then .start
  else if highByte w = 0x3C then
    match hopOf (lowByte w) with
    | some h => .training .a h
    | none => .data (lowByte w)
  else if highByte w = 0x3D then
    match hopOf (lowByte w) with
    | some h => .training .b h
    | none => .data (lowByte w)
  else .data (lowByte w)

/-! ### Frames -/

/-- The kinds of checked frame (R131). -/
inductive FrameKind where
  | fill | sweep | ret | request | reply
  deriving DecidableEq, Repr

/-- The kind codes (R194). -/
def FrameKind.code : FrameKind → Byte
  | .fill => 0 | .sweep => 1 | .ret => 2 | .request => 3 | .reply => 4

/-- The kind that a byte names (R194). -/
def FrameKind.ofByte (b : Byte) : Option FrameKind :=
  if b = 0 then some .fill
  else if b = 1 then some .sweep
  else if b = 2 then some .ret
  else if b = 3 then some .request
  else if b = 4 then some .reply
  else none

/-- The payload length lies in the kind's range (R131). -/
def FrameKind.lengthOk (k : FrameKind) (n : Nat) : Bool :=
  match k with
  | .fill => decide (n = 0)
  | .sweep => decide (n = 129)
  | .ret => decide (n = 131)
  | .request => decide (3 ≤ n ∧ n ≤ 243)
  | .reply => decide (3 ≤ n ∧ n ≤ 243)

/-- The header of a frame is well-formed, as judged when its length byte arrives (R131, R195). -/
def headerOk (kind length : Byte) : Bool :=
  match FrameKind.ofByte kind with
  | some k => k.lengthOk length.toNat
  | none => false

/-- A frame: its kind and its payload. -/
structure Frame where
  kind : FrameKind
  payload : List Byte
  deriving DecidableEq, Repr

/-- The payload's length is one that the kind may carry (R131). -/
def Frame.wf (f : Frame) : Bool := f.kind.lengthOk f.payload.length

/-- The header: the kind byte and the length byte (R194). -/
def Frame.header (f : Frame) : List Byte := [f.kind.code, u8 f.payload.length]

/-- The bytes after the start word: header, payload and check (R194, R132). -/
def Frame.bytes (f : Frame) : List Byte := f.header ++ f.payload ++ crcBytes (f.header ++ f.payload)

/-- The words of a frame, in the order they are sent (R194). -/
def Frame.words (f : Frame) : List LinkWord := startWord :: f.bytes.map dataWord

/-! ### Receiving -/

/-- A receiver outside a frame, where data words are ignored (also while it hunts after a malformed header), or inside one, with the bytes that have
arrived (R131, R133). -/
inductive Receiver where
  | outside
  | inside (bytes : List Byte)
  deriving DecidableEq, Repr

/-- What a receiver reports. -/
inductive Received where
  | training (kind : TrainKind) (hop : BitVec 4)
  | frame (f : Frame)
  | bad
  deriving DecidableEq, Repr

/-- The bytes of a frame at its end: valid where the check it carries is the one computed (R132). -/
def judgeFrame (bytes : List Byte) : Received :=
  let n := bytes.length - 2
  match bytes with
  | k :: _ =>
    match FrameKind.ofByte k with
    | some kind =>
      if bytes.drop n = crcBytes (bytes.take n) then .frame { kind, payload := (bytes.take n).drop 2 } else .bad
    | none => .bad
  | [] => .bad

/-- A byte arrives inside a frame (R131, R133): at the length byte the header is judged, and after the check the frame. -/
def receiveByte (bytes : List Byte) : Receiver × List Received :=
  match bytes with
  | k :: n :: rest =>
    if rest = [] ∧ !headerOk k n then (.outside, [.bad])
    else if rest.length < n.toNat + 2 then (.inside bytes, [])
    else (.outside, [judgeFrame bytes])
  | _ => (.inside bytes, [])

/-- One word arrives (R133). -/
def Receiver.step (r : Receiver) (w : LinkWord) : Receiver × List Received :=
  match r, classifyWord w with
  | .outside, .start => (.inside [], [])
  | .outside, .training k h => (.outside, [.training k h])
  | .outside, .data _ => (.outside, [])
  | .inside _, .start => (.inside [], [.bad])
  | .inside _, .training k h => (.outside, [.bad, .training k h])
  | .inside bytes, .data b => receiveByte (bytes ++ [b])

/-- Words arrive one after the other. -/
def Receiver.run (r : Receiver) : List LinkWord → Receiver × List Received
  | [] => (r, [])
  | w :: ws =>
    let (r1, e1) := r.step w
    let (r2, e2) := Receiver.run r1 ws
    (r2, e1 ++ e2)

/-! ### Which command it is -/

/-- The slot bytes of a payload. -/
def slotsOf (bytes : List Byte) : Slots := Vector.ofFn fun i => bytes.getD i.val 0

/-- What the upstream input reports, as a command of the table (R141, R148, R157). -/
def upstreamCommand : Received → Instr
  | .training k h => .trainingWord k h
  | .bad => .upstreamBadFrame
  | .frame ⟨.sweep, n :: slots⟩ => .upstreamSweep n (slotsOf slots)
  | .frame ⟨.request, t :: g :: k :: p⟩ => .upstreamRequest t g k p
  | .frame _ => .upstreamFill

/-- What the return input reports, as a command of the table (R145, R147). -/
def downstreamCommand : Received → Instr
  | .training k h => .probeAnswer k h
  | .bad => .downstreamBadFrame
  | .frame ⟨.ret, n :: a :: o :: slots⟩ => .downstreamReturn n (a.getLsbD 0) o (slotsOf slots)
  | .frame ⟨.reply, s :: g :: st :: p⟩ => .downstreamReply s g st p
  | .frame _ => .downstreamOtherFrame

/-! ### What the part's own lanes carry -/

/-- The frame of a return (R196). -/
def ReturnFrame.frame (r : ReturnFrame) : Frame :=
  { kind := .ret, payload := [r.number, flagByte r.attention, r.originator] ++ r.slots.toList }

/-- The frame of a reply (R196). -/
def ReplyFrame.frame (r : ReplyFrame) : Frame := { kind := .reply, payload := [r.source, r.tag, r.status] ++ r.payload }

/-- A forwarded frame: its content is the content received, under a check computed afresh (R132, R146). -/
def DownFrame.frame : DownFrame → Frame
  | .sweep n slots => { kind := .sweep, payload := n :: slots.toList }
  | .request t g k p => { kind := .request, payload := [t, g, k] ++ p }

/-- The words that the return lane is sending (R149, R194). -/
def UpLane.words : UpLane → List LinkWord
  | .idle => []
  | .training k h => [trainingWordOf k h]
  | .fill => Frame.words { kind := .fill, payload := [] }
  | .ret r => r.frame.words
  | .reply r => r.frame.words

/-- The words that the downstream lane is sending; a probe sends A and B alternately, starting with A (R145, R146). -/
def DownLane.words : DownLane → List LinkWord
  | .idle => []
  | .probing hop => [trainingWordOf .a (BitVec.ofNat 4 hop), trainingWordOf .b (BitVec.ofNat 4 hop)]
  | .fill => Frame.words { kind := .fill, payload := [] }
  | .frame f => f.frame.words

end Sys2Proof.Machine
end

