-- ==== Sys2Proof/Safety.lean ====
section
/-! DEFINITION. What counts as a sound state of the part, in the terms the claims use: the relations between the fields of State that the spec's rules imply
for every moment of the part's life, and what a safe step is. -/

namespace Sys2Proof.Safety

open Sys2Proof.Machine

/-- A step is safe when it answers a next state. -/
def Completes (o : Host.Outcome State Fault Refusal) : Prop := ∃ t, o = .next t

/-- A running part whose MRU is free serves a request of every kind: it holds no RESTART, and no save is in progress (R168). -/
abbrev Serves (s : State) : Prop := s.phase = .running ∧ s.mru.state = .idle ∧ s.mru.saveInProgress = false

/-- A running part that holds no RESTART serves the reads, also while a save is in progress (R168). -/
abbrev ServesReads (s : State) : Prop := s.phase = .running ∧ s.mru.state = .idle

/-! ### Bays and power (chapters 1 and 2) -/

/-- A bay record agrees with its state (the table of section 1.1, and the presence column of R5). -/
abbrev BaySound (r : BayRecord) : Prop :=
  (r.state.live = false → r.charge12 = 0 ∧ r.charge5 = 0 ∧ r.steady12 = 0) ∧
  (r.state = .powered → r.charge12 = r.steady12) ∧
  (r.state = .ramping → r.steady12 ≤ r.charge12) ∧
  (r.rampDeadline.isSome ↔ r.state = .ramping) ∧
  (r.pgDeadline.isSome → r.state = .ramping) ∧
  (r.drainDeadline.isSome ↔ r.state = .removing) ∧
  (r.backoffDeadline.isSome ↔ r.state = .powerFault) ∧
  (r.shedParked = true → r.state = .removing ∨ r.state = .parked) ∧
  r.charge12 ≤ 500 ∧ r.charge5 ≤ 300 ∧ r.steady12 ≤ 300 ∧ r.retryCount ≤ 7

/-- The sums are those of the recorded charges, and the ramping count is the number of RAMPING bays (R35, R36). -/
abbrev SumsSound (s : State) : Prop :=
  s.psq.committed12 = ∑ b : BayId, s.bays[b].charge12 ∧
  s.psq.committed5 = ∑ b : BayId, s.bays[b].charge5 ∧
  (∀ g : GroupId, s.psq.branch[g] = ∑ b : BayId, if groupOf b = g then s.bays[b].charge12 else 0) ∧
  s.psq.rampingCount = ∑ b : BayId, if s.bays[b].state = .ramping then 1 else 0

/-- No committed charge lies above the limit that governs it (R30, R40, R186). -/
abbrev BudgetsSound (s : State) : Prop :=
  s.psq.committed12 ≤ s.tables.limits.rail12 ∧ s.psq.committed5 ≤ s.tables.limits.rail5 ∧
  ∀ g : GroupId, s.psq.branch[g] ≤ s.tables.limits.branch[g]

/-- The power state: every table is in range and meets its constraints, every bay record agrees with its state, the sums are the recorded charges, and
they lie within the budgets. -/
abbrev PowerSound (s : State) : Prop :=
  s.tables.wf = true ∧ (∀ b : BayId, BaySound s.bays[b]) ∧ SumsSound s ∧ BudgetsSound s

/-- The power-up queue holds exactly the QUEUED bays, none twice, in priority order (R11, R31). -/
abbrev QueueSound (s : State) : Prop :=
  (s.psq.queue.map (·.bay)).Nodup ∧
  (∀ b : BayId, b ∈ s.psq.queue.map (·.bay) ↔ s.bays[b].state = .queued) ∧
  s.psq.queue.Pairwise fun x y => x.priority ≤ y.priority

/-- Conditions 3 to 6 of R40, which concern the candidate b. -/
abbrev Fits (s : State) (b : BayId) : Prop :=
  s.psq.committed12 + s.tables.classes[s.bays[b].cls].inrush12 ≤ s.tables.limits.rail12 ∧
  s.psq.committed5 + s.tables.classes[s.bays[b].cls].steady5 ≤ s.tables.limits.rail5 ∧
  s.psq.branch[groupOf b] + s.tables.classes[s.bays[b].cls].inrush12 ≤ s.tables.limits.branch[groupOf b] ∧
  s.zones[s.tables.baySettings[b].zone].hold = false

/-- The bay may be shed from zone z (R51): its entry names z, it is POWERED and its shed rank is not 0. -/
abbrev Sheddable (s : State) (z : ZoneId) (b : BayId) : Prop :=
  s.tables.baySettings[b].zone = z ∧ s.bays[b].state = .powered ∧ s.tables.baySettings[b].shedRank ≠ 0

/-- The part after bay b has entered QUEUED (R11, R31): its class copied, its flag and deadlines cleared, and its place in the queue given by its priority. -/
def Requeued (s : State) (b : BayId) : State :=
  { s with
    bays := s.bays.set b
      { s.bays[b] with
        state := .queued, cls := s.tables.baySettings[b].cls, shedParked := false, backoffDeadline := none, drainDeadline := none }
    psq := { s.psq with
      queue := insertEntry { bay := b, priority := s.tables.baySettings[b].priority } s.psq.queue } }

/-- The part after the grant of bay b (R13, R36, R46): its charges and deadlines are those of its class, the sums and the ramping count rise by them, it leaves the queue, and the
stagger timer starts. -/
def Granted (s : State) (b : BayId) : State :=
  { s with
    bays := s.bays.set b
      { s.bays[b] with
        state := .ramping
        charge12 := s.tables.classes[s.bays[b].cls].inrush12
        charge5 := s.tables.classes[s.bays[b].cls].steady5
        steady12 := s.tables.classes[s.bays[b].cls].steady12
        rampDeadline := some (s.tb.now + s.tables.classes[s.bays[b].cls].rampTime * 100)
        pgDeadline := some (s.tb.now + s.tables.limits.pgTimeout * 100)
        lastGrant := some s.uptime }
    psq := { s.psq with
      queue := s.psq.queue.filter fun e => e.bay != b
      committed12 := s.psq.committed12 + s.tables.classes[s.bays[b].cls].inrush12
      committed5 := s.psq.committed5 + s.tables.classes[s.bays[b].cls].steady5
      branch := s.psq.branch.set (groupOf b) (s.psq.branch[groupOf b] + s.tables.classes[s.bays[b].cls].inrush12)
      rampingCount := s.psq.rampingCount + 1
      stagger := some s.tb.now } }

/-- The part after bay b has entered PARKED (R8, R18). -/
def Parked (s : State) (b : BayId) : State :=
  { s with
    bays := s.bays.set b { s.bays[b] with state := .parked, drainDeadline := none, backoffDeadline := none }
    mru := { s.mru with attention := attentionRaise s.mru.attention .bayState } }

/-- The part after the RAMPING or POWERED bay b has entered REMOVING (R17, R36, R63): its charges released from the sums, its drive source ABSENT after POWERED, its
drain running. -/
def Draining (s : State) (b : BayId) (shedParked : Bool) : State :=
  { s with
    bays := s.bays.set b
      { s.bays[b] with
        state := .removing, charge12 := 0, charge5 := 0, steady12 := 0, rampDeadline := none, pgDeadline := none
        shedParked := shedParked
        drainDeadline := some (s.tb.now + s.tables.classes[s.bays[b].cls].drainTime * 100) }
    drives := if s.bays[b].state = .powered then s.drives.set b { state := .absent, value := none, reportTime := none } else s.drives
    psq := { s.psq with
      committed12 := s.psq.committed12 - s.bays[b].charge12
      committed5 := s.psq.committed5 - s.bays[b].charge5
      branch := s.psq.branch.set (groupOf b) (s.psq.branch[groupOf b] - s.bays[b].charge12)
      rampingCount := if s.bays[b].state = .ramping then s.psq.rampingCount - 1 else s.psq.rampingCount } }

/-- The part after a shed of the POWERED bay b from zone z (R17, R50, R51): it drains with its flag set; a class of drain time 0 passes straight on, to QUEUED where its
zone is out of HOLD and to PARKED where it is not; ZONE_SHED is raised, and the record is in INTERVAL from now. -/
def Shed (s : State) (z : ZoneId) (b : BayId) : State :=
  let u : State := Draining { s with mru := { s.mru with attention := attentionRaise s.mru.attention .zoneShed } } b true
  let v : State :=
    if 0 < s.tables.classes[s.bays[b].cls].drainTime then u
    else if s.zones[s.tables.baySettings[b].zone].hold = true then Parked u b
    else Requeued u b
  { v with psq := { v.psq with shed := v.psq.shed.set z (.interval s.tb.now) } }

/-- The queue after the bays that meet the condition have joined it in ascending bay number, each by the priority of its settings (R31, R32). -/
def joinedQueue (s : State) (p : BayId → Prop) [DecidablePred p] (q : List QueueEntry) : List QueueEntry :=
  ((List.finRange 24).filter fun b => p b).foldl
    (fun q b => insertEntry { bay := b, priority := s.tables.baySettings[b].priority } q) q

/-- A budget of the record lies below the committed charge it governs (R30, R186). -/
abbrev BudgetBelow (l : Limits) (p : Psq) : Prop :=
  l.rail12 < p.committed12 ∨ l.rail5 < p.committed5 ∨ ∃ g : GroupId, l.branch[g] < p.branch[g]

/-- The record with each such budget raised to the charge, and every other field as it is (R186). -/
def Raised (l : Limits) (p : Psq) : Limits :=
  { l with
    rail12 := max l.rail12 p.committed12
    rail5 := max l.rail5 p.committed5
    branch := Vector.ofFn fun g => max l.branch[g] p.branch[g] }

/-! ### Temperature sources (chapter 3) -/

/-- A drive source agrees with its state (R60). -/
abbrev DriveSound (d : Drive) : Prop :=
  (d.state = .absent → d.value = none) ∧ (d.state = .valid → d.value.isSome) ∧ (d.reportTime.isSome ↔ d.state = .valid) ∧
  ∀ v ∈ d.value, v ≤ 125

/-- A local sensor agrees with its state (R56, R57). -/
abbrev SensorSound (x : Sensor) : Prop :=
  (x.state = .pending → x.held = none) ∧ (x.state = .ok → x.held.isSome) ∧ ∀ h ∈ x.held, -80 ≤ h ∧ h ≤ 250

/-- Every source agrees with its state, and a drive source that is not ABSENT belongs to a POWERED bay (R60, R63). A sensor converted in this control period is
not PENDING, and no control period runs while the part does not (R55, R57, R70). -/
abbrev SourcesSound (s : State) : Prop :=
  (∀ b : BayId, DriveSound s.drives[b] ∧ (s.drives[b].state ≠ .absent → s.bays[b].state = .powered)) ∧
  (∀ k : SensorId, SensorSound s.sensors[k] ∧ (k.castSucc < s.converted → s.sensors[k].state ≠ .pending)) ∧
  (s.phase ≠ .running → s.converted = 0)

/-! ### Zones and fans (chapters 4 and 5) -/

/-- A fan's duty, counts and PWM counts (R85, R86, R88, R89, R91). -/
abbrev FanSound (x : Fan) : Prop :=
  x.duty ≤ 1000 ∧ (x.duty = 0 ↔ x.state = .stopped) ∧ x.lowCount ≤ 2 ∧ x.goodCount ≤ 2 ∧ x.pulses ≤ 65535 ∧
  x.compare ≤ x.divisor ∧ x.compareNow ≤ x.divisorNow ∧ ∀ r ∈ x.lastRpm, r ≤ 65534

/-- A zone's duties, and its conditions: a zone in SHED is in HOLD, and holds a shed-since time exactly while it is in SHED (R98). -/
abbrev ZoneSound (x : Zone) : Prop :=
  x.held ≤ 1000 ∧ x.output ≤ 1000 ∧ (x.shed = true → x.hold = true) ∧ (x.shedSince.isSome ↔ x.shed = true) ∧ x.failedFans ≤ 6

/-- The cooling state: in-range tables, sound zones and fans, each fan's divisor that of its frequency setting (R86), and, while the part runs, a shed
engine record out of IDLE exactly for the zones in SHED (R50, R53). While it does not run every record is IDLE, and before its start no zone is in SHED (R53, R107). -/
abbrev CoolingSound (s : State) : Prop :=
  s.tables.wf = true ∧ (∀ z : ZoneId, ZoneSound s.zones[z]) ∧
  (∀ f : FanId, FanSound s.fans[f] ∧ s.fans[f].divisor = 250000 / s.tables.fans[f].pwmFrequency) ∧
  (s.phase = .running → ∀ z : ZoneId, s.psq.shed[z] = .idle ↔ s.zones[z].shed = false) ∧
  (s.phase ≠ .running → ∀ z : ZoneId, s.psq.shed[z] = .idle) ∧
  (s.phase = .powerOnHold ∨ s.phase = .powerOnLoad → ∀ z : ZoneId, s.zones[z].shed = false)

/-! ### Lights (chapter 6) -/

/-- A line drives its manual level in MANUAL mode and the engine level in ENGINE mode, and shows a pattern exactly where it shows an indication
(R118, R124). -/
abbrev LineSound (l : Line) : Prop := l.driven = l.manual.getD l.engine ∧ (l.pattern.isSome ↔ l.shown.isSome)

/-- Every line is sound, the pattern clock is a 32-bit count, and the link-lost mark stands while the link is lost (R113, R120, R138). -/
abbrev LightsSound (s : State) : Prop :=
  (∀ b : BayId, LineSound s.len.lineA[b] ∧ LineSound s.len.lineB[b]) ∧ s.len.clock < 4294967296 ∧
  (s.linkLost = true → s.len.linkLost = true)

/-- The indication is a candidate for the line of the bay (R117). -/
abbrev Candidate (s : State) (b : BayId) (ln : LineName) (id : IndicationId) : Prop :=
  s.active b id = true ∧ ((s.tables.indications[id]).patternFor ln).isSome ∧
  s.tables.baySettings[b].lightFloor ≤ s.tables.indications[id].level

/-- When each indication is active for the bay (R110 to R114). -/
def IndicationHolds (s : State) (b : BayId) (id : IndicationId) : Prop :=
  (id.val < 16 ∧ s.smap[b].condition.val = id.val) ∨
  (id.val = 16 ∧ s.smap[b].stretch ≠ none) ∨
  (id.val = 17 ∧ s.bays[b].state = .settling) ∨
  (id.val = 18 ∧ s.bays[b].state = .queued) ∨
  (id.val = 19 ∧ s.bays[b].state = .ramping) ∨
  (id.val = 20 ∧ s.bays[b].state = .powered) ∨
  (id.val = 21 ∧ s.bays[b].state = .powerFault) ∨
  (id.val = 22 ∧ s.bays[b].state = .lockedOut) ∨
  (id.val = 23 ∧ s.bays[b].state = .removing) ∨
  (id.val = 24 ∧ s.bays[b].state = .parked) ∨
  (id.val = 25 ∧ s.bays[b].shedParked = true) ∨
  (id.val = 26 ∧ s.len.linkLost = true ∧ s.bays[b].state ≠ .empty) ∨
  (id.val = 27 ∧ s.bays[b].identify = true) ∨
  (id.val = 28 ∧ s.bays[b].state ≠ .empty ∧ s.tables.bayMap[b] = none) ∨
  ∃ n : Fin 3, id.val = 29 + n.val ∧ s.bays[b].marks[n] = true

/-! ### The link (chapters 7 and 8) -/

/-- The link state is one in which the downstream port may be out of OFF (R144). -/
def portMayRun : LinkState → Bool
  | .aligned => true
  | .silent => true
  | .lost => true
  | _ => false

/-- The return lane is idle or carries training words (R135, R149). -/
def laneBetweenFrames : UpLane → Bool
  | .idle => true
  | .training _ _ => true
  | _ => false

/-- The bounds and emptiness that the LIU's rules keep (R134, R135, R138, R139, R141, R143, R144, R149, R150, R158). -/
abbrev LinkSound (l : Liu) : Prop :=
  l.errorCount ≤ 256 ∧ (l.errorCount = 256 → l.link = .fault) ∧ (l.lostLatch = true → l.link = .fault) ∧
  l.pendingReturns.length ≤ 3 ∧ l.replyQueue.length ≤ 4 ∧ l.outstanding.length ≤ 2 ∧ (l.outstanding.map (·.number)).Nodup ∧
  (l.link.carriesFrames = false → l.pendingReturns = [] ∧ l.replyQueue = [] ∧ laneBetweenFrames l.upLane = true) ∧
  (portMayRun l.link = false → l.port = .off ∧ l.outstanding = [] ∧ l.forwardQueue = [] ∧ l.downLane = .idle) ∧
  (l.link.carriesFrames = true → l.position.isSome) ∧ (l.silenceStart = none → l.link = .disabled) ∧ l.alternation ≤ 7

/-- The LIU right after an entry to FAULT (R139, R144): the return lane idle, the lists and queues emptied, the downstream port OFF. -/
def FaultLiu (l : Liu) (errorCount : Nat) (latch : Bool) : Liu :=
  { l with
    link := .fault, lostLatch := latch, errorCount := errorCount, alternation := 0, trainWord := none, frameTaken := false
    upLane := .idle, pendingReturns := [], replyQueue := [], outstanding := [], port := .off, probeStart := none, probeCount := 0
    probeAnswer := none, retryDue := none, returnWatch := none, downLane := .idle, forwardQueue := [] }

/-- The part with its LIU at l, at the moment the link becomes lost (R65, R113, R138, R156): the drive sources of POWERED bays STALE, the link-lost mark set, and the
applied sweep cleared. -/
def Lost (s : State) (l : Liu) : State :=
  { s with
    liu := l
    drives := Vector.ofFn fun b =>
      if s.bays[b].state = .powered then { s.drives[b] with state := .stale, reportTime := none } else s.drives[b]
    len := { s.len with linkLost := true }
    smap := Vector.replicate 24 { condition := 0, stretch := none } }

/-- The part right after an entry to FAULT (R138, R139): lost in the same transition where the autonomy timeout has passed, which is a consideration; otherwise the
queue is considered where the link was lost before and is so no longer. -/
def Faulted (s : State) (errorCount : Nat) : State :=
  if s.autonomyPassed then State.consider (Lost s (FaultLiu s.liu errorCount true))
  else State.considerIf { s with liu := FaultLiu s.liu errorCount false } s.linkLost

/-- The LIU right after the downstream port's entry to ABSENT (R145, R146): its lane idle, the frames still waiting discarded, a retry due in 1 s. -/
def AbsentLiu (l : Liu) (now : Nat) : Liu :=
  { l with
    port := .absent, probeStart := none, probeCount := 0, probeAnswer := none, retryDue := some (now + 1000), returnWatch := none
    downLane := .idle, forwardQueue := [] }

/-! ### Requests, save and start-up (chapters 9 and 10) -/

/-- The number of a RESTART's replies on their way to the return lane's end. -/
def restartReplies (l : Liu) : Nat :=
  (l.replyQueue.filter (·.restart)).length + (match l.upLane with | .reply r => if r.restart then 1 else 0 | _ => 0)

/-- The CMP is SAVING. -/
def isSaving : CmpState → Bool
  | .saving _ => true
  | _ => false

/-- The MRU waits for the end of a RESTART's reply. -/
def isSending : MruState → Bool
  | .sending _ => true
  | _ => false

/-- The part's phases and the blocks agree: the link is DISABLED, no request is held, the CMP is LOADING and no time base is set exactly while the part
does not run (R134, R181, R182, R188, R189); the quiesce-pending flag stands exactly while a RESTART is held in QUIESCING, or may stand in SENDING
(R49, R178); a save in progress is the CMP's SAVING, with a write in front (R180); while a load runs the CMP's wait has begun, and while none runs only a SAVING CMP waits and none reads (R182); in
SENDING exactly one reply is awaited (R178). -/
abbrev ControlSound (s : State) : Prop :=
  (s.liu.link = .disabled ↔ s.phase ≠ .running) ∧ (s.cmp.state = .loading ↔ s.phase ≠ .running) ∧
  (s.tb.nextPeriod = none ↔ s.phase ≠ .running) ∧ (s.tb.nextLight = none ↔ s.phase ≠ .running) ∧
  (s.rstn = false ↔ (s.phase = .powerOnHold ∨ s.phase = .resetHold)) ∧
  (s.tb.startTime = none ↔ (s.phase = .powerOnHold ∨ s.phase = .powerOnLoad)) ∧
  (s.phase ≠ .running → s.mru.state = .idle) ∧
  (s.mru.state = .idle → s.psq.quiescePending = false) ∧
  (s.mru.state ≠ .idle → isSending s.mru.state = false → s.psq.quiescePending = true) ∧
  (s.mru.saveInProgress = isSaving s.cmp.state) ∧ s.cmp.state ≠ .saving [] ∧
  (s.phase = .powerOnLoad ∨ s.phase = .resetLoad → s.cmp.waitStart.isSome) ∧
  (s.cmp.waitStart.isSome → s.phase = .powerOnLoad ∨ s.phase = .resetLoad ∨ isSaving s.cmp.state = true) ∧
  (s.cmp.readStart.isSome → s.phase = .powerOnLoad ∨ s.phase = .resetLoad) ∧
  restartReplies s.liu = (if isSending s.mru.state then 1 else 0)

/-- The number in the bytes of a field of a record, most significant byte first (chapter 11): `len` bytes from offset `off`. -/
def fieldAt (record : List Byte) (off len : Nat) : Nat := ((record.drop off).take len).foldl (fun n b => 256 * n + b.toNat) 0

/-- A number as a field of so many bits sends it; an absent one is sent as its marker (section 11.4). -/
def sent (bits marker : Nat) : Option Nat → Nat
  | some n => n % 2 ^ bits
  | none => marker

/-- A temperature as its two-byte field sends it, in two's complement; 0x7FFF is absent (section 11.4). -/
def sentTemperature : Option Int → Nat
  | some t => (t % 65536).toNat
  | none => 0x7FFF

/-- The payload of a request of a defined kind is faulty in a way that is BAD_VALUE (R24, R126, R167, R172 to R174, R177, R178, R197): its length does not agree with its
kind or with the count it carries, or, where no earlier check of the kind fails, a value is one the part does not define. -/
def BadPayload (kind : Byte) (p : List Byte) : Prop :=
  (kind = 0x10 ∧ p.length ≠ 3) ∨
  (kind = 0x11 ∧ p.length < 3) ∨
  (kind = 0x20 ∧ (p.length ≠ 3 ∨ ∃ bay action mark, p = [bay, action, mark] ∧ bay.toNat < 24 ∧
    (action = 0 ∨ 8 ≤ action.toNat ∨ ((action = 6 ∨ action = 7) ∧ (mark = 0 ∨ 4 ≤ mark.toNat))))) ∨
  (kind = 0x21 ∧ (p = [] ∨ ∃ n rest, p = n :: rest ∧ (rest.length ≠ 2 * n.toNat ∨ n = 0 ∨ 64 < n.toNat))) ∨
  (kind = 0x30 ∧ (p = [] ∨ ∃ selector rest, p = selector :: rest ∧
    (6 ≤ selector.toNat ∨ (selector = 1 ∧ rest.length ≠ 2) ∨ (selector ≠ 1 ∧ rest ≠ [])))) ∨
  (kind = 0x31 ∧ (p.length ≠ 2 ∨ ∃ high low, p = [high, low] ∧ 128 ≤ high.toNat)) ∨
  (kind = 0x32 ∧ (p.length ≠ 7 ∨ ∃ b2 b1 b0 lines mode level, p = [0, b2, b1, b0, lines, mode, level] ∧
    (lines = 0 ∨ 4 ≤ lines.toNat ∨ 2 ≤ mode.toNat ∨ 2 ≤ level.toNat))) ∨
  (kind = 0x40 ∧ (p.length ≠ 1 ∨ ∃ form, p = [form] ∧ 2 ≤ form.toNat)) ∨
  (kind = 0x41 ∧ p ≠ [])

/-- The payload names a bay above B23, or a range of bays that the part or a reply cannot hold, which is BAD_RANGE whatever else is wrong with it (R126, R173, R174). -/
def BadRangePayload (kind : Byte) (p : List Byte) : Prop :=
  (kind = 0x20 ∧ ∃ bay action mark, p = [bay, action, mark] ∧ 24 ≤ bay.toNat) ∨
  (kind = 0x30 ∧ ∃ first count, p = [1, first, count] ∧ (count = 0 ∨ 24 < first.toNat + count.toNat ∨ 9 < count.toNat)) ∨
  (kind = 0x32 ∧ ∃ b3 b2 b1 b0 lines mode level, p = [b3, b2, b1, b0, lines, mode, level] ∧ b3 ≠ 0)

/-! ### The Timebase's tick -/

/-- A start time, where there is one, lies at least `ms` before the time. -/
abbrev Passed (start : Option Nat) (ms now : Nat) : Prop := ∃ t, start = some t ∧ t + ms ≤ now

/-- The memory acknowledges its address at the time `now`: it is ready, and no line of its bus is held low (R182). -/
abbrev Acknowledges (c : Cmp) (now : Nat) : Prop := Passed c.answersFrom 0 now ∧ ¬ Passed c.heldLow 0 now

/-- A memory failure falls due to a load that runs, or to a save, at the time `now` (R182): a line has been held low for 25 ms; or the wait of 10 ms is over, of a load whose reading
has not begun or of a save's write, and the memory does not acknowledge at its very end; or the erase of a save is to be sent on a free bus, and the memory does not acknowledge. -/
abbrev MemoryFails (c : Cmp) (now : Nat) : Prop :=
  (Passed c.heldLow 25 now ∧ (isSaving c.state = true ∨ c.waitStart ≠ none)) ∨
  (∃ start, c.waitStart = some start ∧ start + 10 ≤ now ∧ ¬ (now = start + 10 ∧ Acknowledges c now) ∧
    (isSaving c.state = true ∨ c.readStart = none)) ∨
  (isSaving c.state = true ∧ c.waitStart = none ∧ ¬ Passed c.answersFrom 0 now ∧ ¬ Passed c.heldLow 0 now)

/-- The reading of a load that has begun is over at the time `now`, at the latest (R187): 100 ms after the load began, or, where the reading stops at the marker or the version, 5 ms after
the memory acknowledged. -/
abbrev ReadingEnds (c : Cmp) (now : Nat) : Prop :=
  ∃ read, c.readStart = some read ∧ (Passed c.waitStart 100 now ∨ (imageReadCount c.mem ≤ 3 ∧ read + 5 ≤ now))

/-- From when on the memory acknowledges, at a reset that finds it in an internal write cycle of so many ms, begun with the write sent (R192, R193). -/
def AnswersAfterCycle (c : Cmp) (cycle : Nat) : Option Nat :=
  if isSaving c.state = true then
    match c.waitStart with
    | some start => c.answersFrom.map (max · (start + cycle))
    | none => c.answersFrom
  else c.answersFrom

/-- What falls due at a tick (R1 to R3, R14, R15, R17, R21, R41, R50, R55, R64, R78, R111, R118, R137, R139, R145, R162, R178, R182, R187, R192): the commands that the tick at the
time `now` puts into the queue of the part s. The rows that come from outside the part are not among them. -/
def FallsDue (s : State) (now : Nat) : Instr → Prop
  | .qualifiedFltAssertion b =>
    (s.inputs[b].flt = false ∧ s.inputs[b].fltPin = true ∧ s.inputs[b].fltLast = some true) ∨
    (s.inputs[b].flt = true ∧ s.bays[b].state = .ramping ∧ ¬ (s.inputs[b].fltPin = false ∧ s.inputs[b].fltLast = some false))
  | .qualifiedFltDeassertion b => s.inputs[b].flt = true ∧ s.inputs[b].fltPin = false ∧ s.inputs[b].fltLast = some false
  | .qualifiedPgAssertion b => s.inputs[b].pg = false ∧ s.inputs[b].pgPin = true ∧ s.inputs[b].pgLast = some true
  | .qualifiedPgDeassertion b => s.inputs[b].pg = true ∧ s.inputs[b].pgPin = false ∧ s.inputs[b].pgLast = some false
  | .qualifiedInsertion b => s.bays[b].state = .empty ∧ s.inputs[b].presPin = true ∧ s.inputs[b].presLast = some true
  | .settlingBounce b => s.bays[b].state = .settling ∧ s.inputs[b].presPin = false
  | .qualifiedRemoval b =>
    s.bays[b].state ≠ .empty ∧ s.bays[b].state ≠ .settling ∧ s.inputs[b].presPin = false ∧
      s.tables.limits.removalDebounce ≤ s.inputs[b].removalCount + 1
  | .pgDeadline b => s.bays[b].state = .ramping ∧ Passed s.bays[b].pgDeadline 0 now
  | .rampDeadline b => s.bays[b].state = .ramping ∧ Passed s.bays[b].rampDeadline 0 now
  | .insertionDebounceExpiry b =>
    s.bays[b].state = .settling ∧ Passed s.inputs[b].settleStart (s.tables.limits.insertionDebounce * 10) now
  | .drainExpiry b => s.bays[b].state = .removing ∧ Passed s.bays[b].drainDeadline 0 now
  | .backoffExpiry b => s.bays[b].state = .powerFault ∧ Passed s.bays[b].backoffDeadline 0 now
  | .driveAgeExpiry b => s.drives[b].state = .valid ∧ Passed s.drives[b].reportTime (s.tables.link.driveAgeLimit * 1000) now
  | .activityStretchExpiry b => Passed s.smap[b].stretch 0 now
  | .quiesceLimit => ∃ tag taken, s.mru.state = .quiescing tag taken ∧ taken + 60000 ≤ now
  | .sensorConversion k reading => Passed s.tb.nextPeriod 0 now ∧ s.converted ≤ k.castSucc ∧ reading = s.therm[k]
  | .controlPeriodEnd => Passed s.tb.nextPeriod 0 now
  | .shedDelayReached z => ∃ start, s.psq.shed[z] = .delay start ∧ start + s.tables.zones[z].shedDelay * 1000 ≤ now
  | .shedIntervalReached z => ∃ start, s.psq.shed[z] = .interval start ∧ start + s.tables.zones[z].shedInterval * 1000 ≤ now
  | .staggerExpiry => ∃ start, s.psq.stagger = some start ∧ start < now ∧ start + s.tables.limits.stagger * 10 ≤ now
  | .outstandingDeadline => ∃ e rest, s.liu.outstanding = e :: rest ∧ e.deadline ≤ now
  | .silenceTimeout => s.liu.link = .aligned ∧ Passed s.liu.silenceStart 50 now
  | .autonomyTimeout => s.liu.link = .silent ∧ Passed s.liu.silenceStart (s.tables.link.autonomyTimeout * 1000) now
  | .lostLatchSet =>
    s.liu.link = .fault ∧ s.liu.lostLatch = false ∧ Passed s.liu.silenceStart (s.tables.link.autonomyTimeout * 1000) now
  | .probeTimeout => s.liu.port = .probing ∧ Passed s.liu.probeStart 10 now
  | .probeRetry => s.liu.port = .absent ∧ s.liu.link = .aligned ∧ Passed s.liu.retryDue 0 now
  | .returnWatchTimeout => s.liu.port = .aligned ∧ Passed s.liu.returnWatch 50 now
  | .lightTick => Passed s.tb.nextLight 0 now
  | .loadCompletion memoryFailure =>
    s.cmp.state = .loading ∧ ((memoryFailure = true ∧ MemoryFails s.cmp now) ∨ (memoryFailure = false ∧ ¬ MemoryFails s.cmp now ∧ ReadingEnds s.cmp now))
  | .saveFailed => isSaving s.cmp.state = true ∧ MemoryFails s.cmp now
  | .saveWriteAcknowledged =>
    isSaving s.cmp.state = true ∧ ∃ start, s.cmp.waitStart = some start ∧ start + 5 ≤ now ∧ now ≤ start + 10 ∧ Acknowledges s.cmp now
  | _ => False

/-- The configuration memory is in its canonical form. -/
abbrev MemorySound (s : State) : Prop := Memory.wf s.cmp.mem = true

/-- A QUIESCING part has a bay that is RAMPING or REMOVING: quiesce reached is reported in the transition that brings it (R49, R178). -/
abbrev QuiesceSound (s : State) : Prop :=
  (s.mru.state ≠ .idle ∧ isSending s.mru.state = false) →
    ∃ b : BayId, s.bays[b].state = .ramping ∨ s.bays[b].state = .removing

/-- All of the above. -/
abbrev Sound (s : State) : Prop :=
  PowerSound s ∧ QueueSound s ∧ SourcesSound s ∧ CoolingSound s ∧ LightsSound s ∧ LinkSound s.liu ∧ ControlSound s ∧ MemorySound s ∧
  QuiesceSound s

end Sys2Proof.Safety
end

