-- ==== Sys2Proof/Certificates/Slice0/Obligations.lean ====
section
/-! DEFINITION. The statements for the provers. A statement about a command gives the whole next state where it can, so that it is its own frame: in
`{ s with … }` every field that is not named is the one of `s`. -/

open Sys2Proof Sys2Proof.Machine Sys2Proof.Safety

/-! ### The block as a machine -/

/-- Tier 1: with c at the front of the queue, a step is exec of c on the state with the queue's rest. -/
def Obligations.StepRunsFrontCommand : Prop :=
  ∀ (c : Instr) (s : State), step (s.withPending (c :: s.pending)) = exec c s

/-- R1 to R3, R14 to R16, R55, R182, R187, R192 and the timers of every block. Model's choice (log 1): with an empty queue a step is one 1 ms tick, which moves the time on by one and may
change only the samples, the queue and what the CMP does where the memory acknowledges: the erase of a save is sent and its wait begins, or the reading of a load begins (R182, log 40).
Before the start of the part it samples nothing, and only the completion of the power-on load falls due, by a memory failure or by the end of its reading, whose longest times stand
for it, as they do for the acknowledge of a save's write (R187, R192, log 40). From then on a tick records the sample of each input, counts a removal debounce on, and puts into the queue exactly what falls due at it: a level that its second sample qualifies, a debounce that ends, and each timer whose time has come. A bay's fault stands before its ramp completion and before its removal (R14 to R16), an FLT or PG
level that this tick qualifies before the two deadlines that read it (R1, R14), a bounce before the debounce it abandons (R2), and a period end right behind those of its four
conversions that have not completed, S0 first (log 31); every other order of what falls due together is the model's choice (log 1). -/
def Obligations.IdleStepIsOneTick : Prop :=
  ∀ s : State, s.pending = [] →
    ∃ (inputs : Vector BayInput 24) (pending : List Instr),
      step s = .next
        { s with
          tb := { s.tb with now := s.tb.now + 1 }
          cmp := { s.cmp with
            waitStart :=
              if isSaving s.cmp.state = true ∧ s.cmp.waitStart = none ∧ Acknowledges s.cmp (s.tb.now + 1) then some (s.tb.now + 1)
              else s.cmp.waitStart
            readStart :=
              if s.cmp.state = .loading ∧ s.cmp.readStart = none ∧ (∃ start, s.cmp.waitStart = some start ∧ s.tb.now + 1 ≤ start + 10) ∧
                Acknowledges s.cmp (s.tb.now + 1) then some (s.tb.now + 1)
              else s.cmp.readStart }
          inputs := inputs
          pending := pending } ∧
      (s.phase = .powerOnHold ∨ s.phase = .powerOnLoad → isSaving s.cmp.state = false →
        inputs = s.inputs ∧
        pending =
          if s.cmp.state = .loading ∧ MemoryFails s.cmp (s.tb.now + 1) then [.loadCompletion true]
          else if s.cmp.state = .loading ∧ ReadingEnds s.cmp (s.tb.now + 1) then [.loadCompletion false]
          else []) ∧
      (s.phase = .running ∨ s.phase = .resetHold ∨ s.phase = .resetLoad →
        (∀ b : BayId, inputs[b] =
          { s.inputs[b] with
            presLast := some s.inputs[b].presPin, pgLast := some s.inputs[b].pgPin, fltLast := some s.inputs[b].fltPin
            removalCount :=
              if s.bays[b].state ≠ .empty ∧ s.bays[b].state ≠ .settling ∧ s.inputs[b].presPin = false then s.inputs[b].removalCount + 1
              else 0 }) ∧
        (∀ c : Instr, c ∈ pending ↔ FallsDue s (s.tb.now + 1) c) ∧
        (let inOrder (first then_ : List Instr) : Prop := ∀ c ∈ first, ∀ d ∈ then_, c ∈ pending → d ∈ pending →
          ∃ front mid back : List Instr, pending = front ++ c :: mid ++ d :: back
         ∀ b : BayId,
          inOrder [.qualifiedFltAssertion b, .qualifiedPgDeassertion b, .pgDeadline b] [.rampDeadline b, .qualifiedRemoval b] ∧
          inOrder [.qualifiedFltAssertion b, .qualifiedFltDeassertion b, .qualifiedPgAssertion b, .qualifiedPgDeassertion b]
            [.pgDeadline b, .rampDeadline b] ∧
          inOrder [.settlingBounce b] [.insertionDebounceExpiry b]) ∧
        (Passed s.tb.nextPeriod 0 (s.tb.now + 1) →
          ∃ front back : List Instr, pending = front ++
            ((List.finRange 4).filter fun k => s.converted ≤ k.castSucc).map (fun k => .sensorConversion k s.therm[k]) ++
            .controlPeriodEnd :: back))

/-- Every command of the table answers a next state, on every state: none ends in a fault or a refusal. No command moves the model's time base, and none takes a
waiting command from the queue or adds one. Model's choices: the time and the queue are moved by no command (log 1), and a command whose event cannot arise in the state
answers that state unchanged (log 9). -/
def Obligations.EveryCommandAnswersNextState : Prop :=
  ∀ (c : Instr) (s : State), Completes (exec c s) ∧ ∀ t, exec c s = .next t → t.tb.now = s.tb.now ∧ t.pending = s.pending

/-! ### Resets, start-up and the load (chapter 10) -/

/-- R188 and the reset rules of the chapters: POWER_ON_RESET gives every block its power-on values. The memory keeps its contents but for the bytes of a write in
flight (log 5), the input pins, the THERM readings and the memory's bus keep their levels (log 3), and the model's time base and counter go on (logs 1 and 4); an internal write cycle
that the reset finds runs on, for an open time of at most 5 ms from its start (log 42). Model's choices also: until the first load
the tables are the defaults with no flag set (log 16), no indication is reported active (log 17), and the pattern clock holds 0 (log 39). -/
def Obligations.PowerOnResetGivesPowerOnValues : Prop :=
  ∀ s : State, ∃ (t : State) (mem : Memory) (cycle : Nat), cycle ≤ 5 ∧ exec .powerOnReset s = .next t ∧
    t = { State.reset with
      tb := { State.reset.tb with now := s.tb.now }
      inputs := Vector.ofFn fun b =>
        { BayInput.initial with presPin := s.inputs[b].presPin, pgPin := s.inputs[b].pgPin, fltPin := s.inputs[b].fltPin }
      therm := s.therm
      cmp := { Cmp.initial with mem := mem, answersFrom := AnswersAfterCycle s.cmp cycle, heldLow := s.cmp.heldLow }
      freeCount := s.freeCount + 1
      pending := s.pending } ∧
    (s.cmp.waitStart = none → mem = s.cmp.mem) ∧
    (∀ a : Nat, (∀ w rest, s.cmp.state = .saving (w :: rest) → a < w.offset ∨ w.offset + w.bytes.length ≤ a) →
      Memory.read mem a = Memory.read s.cmp.mem a) ∧
    (∀ b : BayId, t.en b = false ∧ t.bays[b].state = .empty ∧ t.la b = false ∧ t.lb b = false) ∧
    (∀ (f : FanId) (k : Nat), t.fanPwm f k = true) ∧ t.psq.queue = [] ∧ t.psq.committed12 = 0 ∧ t.psq.committed5 = 0 ∧
    t.mru.attention = 0 ∧ t.liu.link = .disabled

/-- R182, R188, R189: RSTn going high starts the load that waits for it, and with it the CMP's wait for the memory; RSTn going low before the power-on load completes abandons
that load without RESTARTED. Nothing else changes. -/
def Obligations.RstnStartsAndAbandonsLoads : Prop :=
  ∀ s : State,
    (s.phase = .powerOnHold → exec .rstnRelease s = .next
      { s with phase := .powerOnLoad, rstn := true, cmp := { s.cmp with waitStart := some s.tb.now, readStart := none } }) ∧
    (s.phase = .resetHold → exec .rstnRelease s = .next
      { s with phase := .resetLoad, rstn := true, cmp := { s.cmp with waitStart := some s.tb.now, readStart := none } }) ∧
    (s.phase = .powerOnLoad →
      exec .rstnPulseDuringPowerOnLoad s = .next
        { s with phase := .powerOnHold, rstn := false, cmp := { s.cmp with waitStart := none, readStart := none } })

/-- R26, R39, R53, R70, R71, R95, R129, R151, R165, R181, R182, R189, R190, R193: what a controller reset leaves in each block: that of the row CONTROLLER_RESET, which is
RSTn driven low (byPin, log 12), and that at the end of a RESTART, whose load begins at once. A write of a save already sent lands whole, and no other byte of the memory changes; a
save whose erase is not yet sent leaves the memory as it was (logs 29 and 40). The memory acknowledges again behind the internal write cycle of the write sent, whose length is open, at
most 5 ms from the sending (log 42), which moves the counter on (log 4). Model's choices: the pattern clock holds its value (log 39), a MANUAL line loses its shown indication, pattern, offset and engine level (log 20, DEDUCED), the CMP is LOADING also while RSTn is low (log 19), and the
indications last reported active are kept (log 17). -/
def Obligations.ControllerResetInEveryBlock : Prop :=
  ∀ (s : State) (byPin : Bool),
    (s.phase = .running ∨ s.phase = .resetLoad → exec .controllerReset s = .next (s.controllerReset true)) ∧
    ∃ t : State, t = s.controllerReset byPin ∧
      t.phase = (if byPin then .resetHold else .resetLoad) ∧ t.rstn = (if byPin then false else s.rstn) ∧ t.tb.now = s.tb.now ∧ t.tb.startTime = s.tb.startTime ∧
      t.tb.nextLight = none ∧ t.tb.nextPeriod = none ∧
      t.tables = s.tables ∧ t.sensors = s.sensors ∧ t.therm = s.therm ∧ t.converted = 0 ∧ t.freeCount = s.freeCount + 1 ∧ t.pending = s.pending ∧
      (∀ b : BayId, t.bays[b] =
        match s.bays[b].state with
        | .queued => { s.bays[b] with state := .presentOff }
        | .ramping =>
          { s.bays[b] with
            state := .presentOff, charge12 := 0, charge5 := 0, steady12 := 0, rampDeadline := none, pgDeadline := none }
        | .removing => { s.bays[b] with state := .parked, drainDeadline := none }
        | .powerFault => { s.bays[b] with state := .presentOff, backoffDeadline := none }
        | _ => s.bays[b]) ∧
      (∀ b : BayId, t.inputs[b] = { s.inputs[b] with settleStart := none }) ∧
      t.psq = { s.psq with
        queue := []
        committed12 := ∑ b : BayId, if s.bays[b].state = .powered then s.bays[b].charge12 else 0
        committed5 := ∑ b : BayId, if s.bays[b].state = .powered then s.bays[b].charge5 else 0
        branch := Vector.ofFn fun g =>
          ∑ b : BayId, if s.bays[b].state = .powered ∧ groupOf b = g then s.bays[b].charge12 else 0
        rampingCount := 0, quiescePending := false, shed := Vector.replicate 3 .idle } ∧
      (∀ b : BayId, t.drives[b] =
        if s.bays[b].state = .powered then { s.drives[b] with state := .stale, reportTime := none }
        else { state := .absent, value := none, reportTime := none }) ∧
      (∀ z : ZoneId, t.zones[z] = { s.zones[z] with failedFans := 0 }) ∧
      (∀ f : FanId, t.fans[f] =
        { s.fans[f] with
          state := if s.fans[f].duty = 0 then .stopped else .starting
          grace := none, lowCount := 0, goodCount := 0, pulses := 0, skipWindow := false }) ∧
      (∀ b : BayId, t.smap[b] = { condition := 0, stretch := none }) ∧
      (∀ b : BayId,
        t.len.lineA[b] =
          { manual := s.len.lineA[b].manual, shown := none, pattern := none, offset := 0, engine := false
            driven := s.len.lineA[b].manual.getD false } ∧
        t.len.lineB[b] =
          { manual := s.len.lineB[b].manual, shown := none, pattern := none, offset := 0, engine := false
            driven := s.len.lineB[b].manual.getD false }) ∧
      t.len.linkLost = s.len.linkLost ∧ t.len.active = s.len.active ∧ t.len.written = s.len.written ∧ t.len.clock = s.len.clock ∧
      t.liu = Liu.initial ∧ t.mru = { state := .idle, attention := attentionRaise 0 .restarted, saveInProgress := false } ∧
      t.cmp.state = .loading ∧ t.cmp.defaulted = s.cmp.defaulted ∧ t.cmp.clamped = s.cmp.clamped ∧
      t.cmp.waitStart = (if byPin then none else some s.tb.now) ∧ t.cmp.readStart = none ∧ t.cmp.heldLow = s.cmp.heldLow ∧
      (∃ cycle ≤ 5, t.cmp.answersFrom = AnswersAfterCycle s.cmp cycle) ∧
      (isSaving s.cmp.state = false ∨ s.cmp.waitStart = none → t.cmp.mem = s.cmp.mem) ∧
      (∀ w rest, s.cmp.state = .saving (w :: rest) → s.cmp.waitStart ≠ none →
        (∀ a : Nat, a < w.offset ∨ w.offset + w.bytes.length ≤ a → Memory.read t.cmp.mem a = Memory.read s.cmp.mem a) ∧
        (Memory.wf s.cmp.mem = true →
          ∀ (i : Nat) (h : i < w.bytes.length), Memory.read t.cmp.mem (w.offset + i) = w.bytes[i]))

/-- R26, R185 to R188: LOAD_COMPLETION of a power-on load is the start of the part: the tables are installed, with any budget below its committed charge raised, and every block
starts. -/
def Obligations.PowerOnLoadStartsThePart : Prop :=
  ∀ (mf : Bool) (s : State), s.phase = .powerOnLoad →
    ∃ t : State, exec (.loadCompletion mf) s = .next t ∧
      t.phase = .running ∧ t.cmp.state = .idle ∧ t.cmp.waitStart = none ∧ t.cmp.readStart = none ∧ t.cmp.mem = s.cmp.mem ∧ t.uptime = 0 ∧ t.tb.startTime = some s.tb.now ∧
      t.tb.nextLight = some (s.tb.now + 10) ∧ t.tb.nextPeriod = some (s.tb.now + 1000) ∧
      t.tables = { (loadTables mf s.cmp.mem).1 with limits := Raised (loadTables mf s.cmp.mem).1.limits s.psq } ∧
      t.cmp.defaulted = (loadTables mf s.cmp.mem).2 ∧
      (t.has .configDefault = true ↔ s.has .configDefault = true ∨ (loadTables mf s.cmp.mem).2 ≠ Vector.replicate 11 false) ∧
      (∀ i : Fin 11, t.cmp.clamped[i] = true ↔
        i.val = TableId.code .limits ∧ BudgetBelow (loadTables mf s.cmp.mem).1.limits s.psq) ∧
      (t.has .configClamped = true ↔ s.has .configClamped = true ∨ BudgetBelow (loadTables mf s.cmp.mem).1.limits s.psq) ∧
      (∀ b : BayId, s.bays[b].state = .empty →
        t.bays[b].state = (if s.inputs[b].presPin then .settling else .empty) ∧ t.bays[b].cls = t.tables.baySettings[b].cls ∧
        (s.inputs[b].presPin = true → t.inputs[b].settleStart = some s.tb.now)) ∧
      (∀ b : BayId, t.inputs[b].presLast = some s.inputs[b].presPin ∧ t.inputs[b].pgLast = some s.inputs[b].pgPin ∧
        t.inputs[b].fltLast = some s.inputs[b].fltPin) ∧
      (∀ f : FanId, t.fans[f].grace = some s.tb.now ∧ t.fans[f].pulses = 0 ∧
        t.fans[f].compare = 250000 / t.tables.fans[f].pwmFrequency ∧ t.fans[f].divisor = t.fans[f].compare) ∧
      t.len.clock = 0 ∧ t.liu = { s.liu with link := .listen, silenceStart := some s.tb.now } ∧
      t.psq = s.psq ∧ t.sensors = s.sensors ∧ t.converted = 0 ∧ t.drives = s.drives ∧ t.zones = s.zones ∧ t.smap = s.smap

/-- R32, R34, R41, R53, R70, R95, R129, R151, R185 to R187, R189: restart completion. The state u is the one in which the bays have joined and which the one consideration then
considers. The bays that join stand behind those of a lower priority number, and in bay-number order among their own; a fan whose reloaded frequency differs has its divisor and
compare count computed anew from its held duty. -/
def Obligations.RestartCompletionReenqueues : Prop :=
  ∀ (mf : Bool) (s : State), s.phase = .resetLoad → (∀ b : BayId, s.bays[b].state ≠ .queued) →
    ∃ u : State, exec (.loadCompletion mf) s = .next u.consider ∧
      u.phase = .running ∧ u.cmp.state = .idle ∧ u.cmp.waitStart = none ∧ u.cmp.readStart = none ∧ u.cmp.mem = s.cmp.mem ∧ u.tb.startTime = s.tb.startTime ∧
      u.tb.nextLight = some (s.tb.now + 10) ∧ u.tb.nextPeriod = some (s.tb.now + 1000) ∧
      u.tables = { (loadTables mf s.cmp.mem).1 with limits := Raised (loadTables mf s.cmp.mem).1.limits s.psq } ∧
      u.cmp.defaulted = (loadTables mf s.cmp.mem).2 ∧
      (u.has .configDefault = true ↔ s.has .configDefault = true ∨ (loadTables mf s.cmp.mem).2 ≠ Vector.replicate 11 false) ∧
      (∀ i : Fin 11, u.cmp.clamped[i] = true ↔
        i.val = TableId.code .limits ∧ BudgetBelow (loadTables mf s.cmp.mem).1.limits s.psq) ∧
      (u.has .configClamped = true ↔ s.has .configClamped = true ∨ BudgetBelow (loadTables mf s.cmp.mem).1.limits s.psq) ∧
      u.psq.committed12 ≤ u.tables.limits.rail12 ∧ u.psq.committed5 ≤ u.tables.limits.rail5 ∧
      (∀ g : GroupId, u.psq.branch[g] ≤ u.tables.limits.branch[g]) ∧
      u.psq.stagger = some s.tb.now ∧ u.converted = 0 ∧
      (∀ z : ZoneId, u.psq.shed[z] = if s.zones[z].shed then .delay s.tb.now else s.psq.shed[z]) ∧
      (∀ b : BayId, u.bays[b].state = .queued ↔
        (s.bays[b].state = .presentOff ∧ u.tables.baySettings[b].policy = .auto) ∨
        (s.bays[b].state = .parked ∧ s.bays[b].shedParked = true) ∨
        (s.bays[b].state = .powerFault ∧ ∃ d, s.bays[b].backoffDeadline = some d ∧ d ≤ s.tb.now)) ∧
      (∀ b : BayId, u.bays[b].state = .queued →
        u.bays[b].cls = u.tables.baySettings[b].cls ∧ u.bays[b].shedParked = false ∧ b ∈ u.psq.queue.map (·.bay)) ∧
      (s.psq.queue = [] →
        (∀ e ∈ u.psq.queue, u.bays[e.bay].state = .queued ∧ e.priority = u.tables.baySettings[e.bay].priority) ∧
        u.psq.queue.Pairwise fun x y => x.priority < y.priority ∨ (x.priority = y.priority ∧ x.bay < y.bay)) ∧
      (∀ b : BayId, s.bays[b].state = .powered → u.bays[b] = s.bays[b]) ∧
      (∀ b : BayId, s.bays[b].state = .settling → u.inputs[b].settleStart = some s.tb.now) ∧
      u.len.clock = 0 ∧ u.liu = { s.liu with link := .listen, silenceStart := some s.tb.now } ∧ u.zones = s.zones ∧
      (∀ f : FanId, u.fans[f].duty = s.fans[f].duty ∧ u.fans[f].pulses = 0 ∧
        (s.fans[f].state = .starting → u.fans[f].grace = some s.tb.now) ∧
        (u.tables.fans[f].pwmFrequency = s.tables.fans[f].pwmFrequency →
          u.fans[f].divisor = s.fans[f].divisor ∧ u.fans[f].compare = s.fans[f].compare) ∧
        (u.tables.fans[f].pwmFrequency ≠ s.tables.fans[f].pwmFrequency →
          u.fans[f].divisor = 250000 / u.tables.fans[f].pwmFrequency ∧
          u.fans[f].compare = s.fans[f].duty * u.fans[f].divisor / 1000))

/-! ### The bays (chapter 1) -/

/-- R2: a qualified insertion takes EMPTY to SETTLING, and a deasserted raw sample takes SETTLING back to EMPTY with no field of the record changed. Model's choice (log 14): the
event sets the level on the pin and stands for its last sample; before the start of the part, when no sample is taken (R26), it sets the level alone. -/
def Obligations.InsertionSettlesAndBounceReturns : Prop :=
  ∀ (b : BayId) (s : State),
    (s.sampling = false →
      exec (.qualifiedInsertion b) s = .next { s with inputs := s.inputs.set b { s.inputs[b] with presPin := true } } ∧
      exec (.settlingBounce b) s = .next { s with inputs := s.inputs.set b { s.inputs[b] with presPin := false } }) ∧
    (s.sampling = true → s.bays[b].state = .empty →
      exec (.qualifiedInsertion b) s = .next
        { s with
          bays := s.bays.set b { s.bays[b] with state := .settling }
          inputs := s.inputs.set b
            { s.inputs[b] with
              presPin := true, presLast := some true, removalCount := 0
              settleStart := if s.phase = .running then some s.tb.now else none } }) ∧
    (s.sampling = true → s.bays[b].state = .settling →
      exec (.settlingBounce b) s = .next
        { s with
          bays := s.bays.set b { s.bays[b] with state := .empty }
          inputs := s.inputs.set b
            { s.inputs[b] with presPin := false, presLast := some false, removalCount := 0, settleStart := none } })

/-- R2, R10, R11, R31: at the insertion debounce's expiry an AUTO bay enters QUEUED, its class copied and its place given by its priority, which is a
consideration; a MANUAL bay enters PRESENT_OFF. Model's choice (log 9): the command given before the debounce is over changes nothing. -/
def Obligations.DebounceExpiryFollowsPolicy : Prop :=
  ∀ (b : BayId) (s : State) (start : Nat),
    s.phase = .running → s.bays[b].state = .settling → s.inputs[b].settleStart = some start →
    (start + s.tables.limits.insertionDebounce * 10 ≤ s.tb.now → s.tables.baySettings[b].policy = .auto →
      exec (.insertionDebounceExpiry b) s = .next (State.afterBay
        { s with
          inputs := s.inputs.set b { s.inputs[b] with settleStart := none }
          bays := s.bays.set b
            { s.bays[b] with
              state := .queued, cls := s.tables.baySettings[b].cls, shedParked := false, backoffDeadline := none
              drainDeadline := none }
          psq := { s.psq with
            queue := insertEntry { bay := b, priority := s.tables.baySettings[b].priority } s.psq.queue } } true)) ∧
    (start + s.tables.limits.insertionDebounce * 10 ≤ s.tb.now → s.tables.baySettings[b].policy = .manual →
      exec (.insertionDebounceExpiry b) s = .next
        { s with
          inputs := s.inputs.set b { s.inputs[b] with settleStart := none }
          bays := s.bays.set b { s.bays[b] with state := .presentOff } }) ∧
    (s.tb.now < start + s.tables.limits.insertionDebounce * 10 → exec (.insertionDebounceExpiry b) s = .next s)

/-- R3, R9, R12, R15, R16, R18, R19, R21, R22, R36: a qualified removal in any state but EMPTY and SETTLING clears the record, keeps the identify flag and the
marks, sets the surprise flag exactly when power was on, releases the charges, and takes the bay out of the queue. Model's choice (log 14): the event sets the level on the pin and
stands for its last sample. -/
def Obligations.RemovalClearsTheRecord : Prop :=
  ∀ (b : BayId) (s : State), s.sampling = true → s.bays[b].state ≠ .empty → s.bays[b].state ≠ .settling →
    exec (.qualifiedRemoval b) s = .next (State.afterBay
      { s with
        inputs := s.inputs.set b
          { s.inputs[b] with presPin := false, presLast := some false, removalCount := 0, settleStart := none }
        bays := s.bays.set b
          { BayRecord.initial s.tables.baySettings[b].cls with
            surprise := s.bays[b].state.live, identify := s.bays[b].identify, marks := s.bays[b].marks }
        drives := if s.bays[b].state = .powered then s.drives.set b { state := .absent, value := none, reportTime := none } else s.drives
        psq :=
          { (if s.bays[b].state.live then
              { s.psq with
                committed12 := s.psq.committed12 - s.bays[b].charge12
                committed5 := s.psq.committed5 - s.bays[b].charge5
                branch := s.psq.branch.set (groupOf b) (s.psq.branch[groupOf b] - s.bays[b].charge12)
                rampingCount := if s.bays[b].state = .ramping then s.psq.rampingCount - 1 else s.psq.rampingCount }
            else s.psq) with
            queue := s.psq.queue.filter fun e => e.bay != b }
        mru := { s.mru with
          attention :=
            if s.bays[b].state.live then attentionRaise (attentionRaise s.mru.attention .bayState) .surpriseRemoval
            else attentionRaise s.mru.attention .bayState } }
      s.bays[b].state.live)

/-- R14, R15, R16, R20, R22, R36: a qualified FLT assertion in RAMPING or POWERED, a qualified PG deassertion where PG is supervised, and a PG deadline reached
with PG deasserted take the bay to POWER_FAULT with its backoff, or on to LOCKED_OUT; its charges are released and its drive source is ABSENT. Model's choice (log 14): the event
sets the level on the pin and stands for its last sample; an FLT assertion where the level stands asserted already is R15's reading of the level, and leaves pin and samples. -/
def Obligations.FaultEntersPowerFaultOrLocksOut : Prop :=
  ∀ (b : BayId) (c : Instr) (s : State),
    (c = .qualifiedFltAssertion b ∧ s.sampling = true ∧ s.bays[b].state.live = true) ∨
    (c = .qualifiedPgDeassertion b ∧ s.sampling = true ∧
      (s.bays[b].state = .powered ∨ (s.bays[b].state = .ramping ∧ s.bays[b].pgDeadline = none))) ∨
    (c = .pgDeadline b ∧ s.bays[b].state = .ramping ∧ s.inputs[b].pg = false ∧
      ∃ d, s.bays[b].pgDeadline = some d ∧ d ≤ s.tb.now) →
    ∃ u : State, exec c s = .next (u.afterBay true) ∧
      u = { s with
        inputs := u.inputs
        bays := s.bays.set b
          (if s.bays[b].retryCount < s.tables.limits.retryLimit then
            { s.bays[b] with
              state := .powerFault, charge12 := 0, charge5 := 0, steady12 := 0, rampDeadline := none, pgDeadline := none
              retryCount := s.bays[b].retryCount + 1
              backoffDeadline := some (s.tb.now + s.tables.limits.backoffBase * 1000 * 2 ^ s.bays[b].retryCount) }
          else
            { s.bays[b] with
              state := .lockedOut, charge12 := 0, charge5 := 0, steady12 := 0, rampDeadline := none, pgDeadline := none })
        drives := if s.bays[b].state = .powered then s.drives.set b { state := .absent, value := none, reportTime := none } else s.drives
        psq := { s.psq with
          committed12 := s.psq.committed12 - s.bays[b].charge12
          committed5 := s.psq.committed5 - s.bays[b].charge5
          branch := s.psq.branch.set (groupOf b) (s.psq.branch[groupOf b] - s.bays[b].charge12)
          rampingCount := if s.bays[b].state = .ramping then s.psq.rampingCount - 1 else s.psq.rampingCount }
        mru := { s.mru with
          attention :=
            if s.bays[b].retryCount < s.tables.limits.retryLimit then
              attentionRaise (attentionRaise s.mru.attention .powerFault) .bayState
            else attentionRaise (attentionRaise (attentionRaise s.mru.attention .powerFault) .bayState) .lockout } } ∧
      u.inputs =
        (if c = .qualifiedFltAssertion b then
          if s.inputs[b].flt = true then s.inputs else s.inputs.set b { s.inputs[b] with fltPin := true, fltLast := some true, flt := true }
        else if c = .qualifiedPgDeassertion b then s.inputs.set b { s.inputs[b] with pgPin := false, pgLast := some false, pg := false }
        else s.inputs)

/-- R1, R14, R15, R47, R52, R63: with PG asserted, no fault found and the ramp deadline reached, the bay enters POWERED: its charge falls to the recorded steady
figure, its retry count to 0, its drive source starts STALE, and an owed shed of its zone follows in the same transition. A PG deadline reached with PG asserted
becomes absent, and PG is supervised from then on; a ramp deadline reached with PG deasserted leaves the bay RAMPING, and so does one with FLT asserted, where R15's fault is taken
instead, by its own row. Model's choices: so does the command given before that deadline (log 9); a PG assertion sets the level on the pin and stands for its last sample (log 14). -/
def Obligations.RampEndEntersPowered : Prop :=
  (∀ (b : BayId) (c : Instr) (s : State) (d : Nat),
     (c = .rampDeadline b ∧ s.inputs[b].pg = true) ∨ (c = .qualifiedPgAssertion b ∧ s.sampling = true) →
     s.bays[b].state = .ramping → s.bays[b].rampDeadline = some d → d ≤ s.tb.now → s.inputs[b].flt = false →
     ∃ u : State, exec c s = .next ((State.shedOwed u s.tables.baySettings[b].zone).afterBay true) ∧
       u = { s with
         inputs := u.inputs
         bays := s.bays.set b
           { s.bays[b] with
             state := .powered, charge12 := s.bays[b].steady12, rampDeadline := none, pgDeadline := none, retryCount := 0 }
         drives := s.drives.set b { state := .stale, value := none, reportTime := none }
         psq := { s.psq with
           committed12 := s.psq.committed12 - (s.bays[b].charge12 - s.bays[b].steady12)
           branch := s.psq.branch.set (groupOf b)
             (s.psq.branch[groupOf b] - (s.bays[b].charge12 - s.bays[b].steady12))
           rampingCount := s.psq.rampingCount - 1 }
         mru := { s.mru with attention := attentionRaise s.mru.attention .bayState } } ∧
       u.inputs =
        (if c = .qualifiedPgAssertion b then s.inputs.set b { s.inputs[b] with pgPin := true, pgLast := some true, pg := true } else s.inputs)) ∧
  (∀ (b : BayId) (s : State) (d : Nat), s.bays[b].state = .ramping →
    (s.bays[b].pgDeadline = some d → d ≤ s.tb.now → s.inputs[b].pg = true →
      exec (.pgDeadline b) s = .next { s with bays := s.bays.set b { s.bays[b] with pgDeadline := none } }) ∧
    (s.inputs[b].pg = false ∨ s.inputs[b].flt = true ∨ (s.bays[b].rampDeadline = some d ∧ s.tb.now < d) →
      exec (.rampDeadline b) s = .next s))

/-- R1, R14, R16: an FLT deassertion changes the bay's qualified FLT level alone, in every state of the bay; so does, of its own level, a PG assertion or deassertion in a state
other than RAMPING and POWERED, an FLT assertion there, a PG deassertion in RAMPING before the PG deadline, a PG assertion in RAMPING before the ramp deadline or with FLT asserted, and a
PG assertion in POWERED. Model's choice (log 14): the event sets the level on the pin and stands for its last sample, but an FLT assertion where the level stands asserted, which says
nothing of either and changes nothing; before the start of the part it sets the pin's level alone. -/
def Obligations.QualifiedLevelsAloneOutsidePower : Prop :=
  ∀ (b : BayId) (s : State),
    let pgIs (x : Bool) : State := { s with inputs := s.inputs.set b { s.inputs[b] with pgPin := x, pgLast := some x, pg := x } }
    let fltIs (x : Bool) : State := { s with inputs := s.inputs.set b { s.inputs[b] with fltPin := x, fltLast := some x, flt := x } }
    (s.sampling = true →
      exec (.qualifiedFltDeassertion b) s = .next (fltIs false) ∧
      (s.bays[b].state.live = false →
        exec (.qualifiedFltAssertion b) s = .next (if s.inputs[b].flt = true then s else fltIs true) ∧
        exec (.qualifiedPgDeassertion b) s = .next (pgIs false) ∧
        exec (.qualifiedPgAssertion b) s = .next (pgIs true)) ∧
      (s.bays[b].state = .ramping → s.bays[b].pgDeadline ≠ none → exec (.qualifiedPgDeassertion b) s = .next (pgIs false)) ∧
      (s.bays[b].state = .ramping → (∀ d, s.bays[b].rampDeadline = some d → s.tb.now < d) ∨ s.inputs[b].flt = true →
        exec (.qualifiedPgAssertion b) s = .next (pgIs true)) ∧
      (s.bays[b].state = .powered → exec (.qualifiedPgAssertion b) s = .next (pgIs true))) ∧
    (s.sampling = false →
      exec (.qualifiedFltAssertion b) s = .next { s with inputs := s.inputs.set b { s.inputs[b] with fltPin := true } } ∧
      exec (.qualifiedFltDeassertion b) s = .next { s with inputs := s.inputs.set b { s.inputs[b] with fltPin := false } } ∧
      exec (.qualifiedPgAssertion b) s = .next { s with inputs := s.inputs.set b { s.inputs[b] with pgPin := true } } ∧
      exec (.qualifiedPgDeassertion b) s = .next { s with inputs := s.inputs.set b { s.inputs[b] with pgPin := false } } ∧
      exec (.qualifiedRemoval b) s = .next { s with inputs := s.inputs.set b { s.inputs[b] with presPin := false } })

/-- R11, R17, R21: at drain expiry a shed-parked bay whose zone is out of HOLD enters QUEUED, and any other REMOVING bay PARKED; at backoff expiry a bay enters QUEUED
whatever its policy, its retry count kept. An entry to QUEUED is a consideration. -/
def Obligations.DrainAndBackoffExpiryLeaveTheWait : Prop :=
  ∀ (b : BayId) (s : State) (d : Nat), d ≤ s.tb.now →
    (s.bays[b].state = .removing → s.bays[b].drainDeadline = some d →
      (s.bays[b].shedParked = true → s.zones[s.tables.baySettings[b].zone].hold = false →
        exec (.drainExpiry b) s = .next (State.afterBay (Requeued s b) true)) ∧
      (s.bays[b].shedParked = false ∨ s.zones[s.tables.baySettings[b].zone].hold = true →
        exec (.drainExpiry b) s = .next (State.afterBay
          { s with
            bays := s.bays.set b { s.bays[b] with state := .parked, drainDeadline := none, backoffDeadline := none }
            mru := { s.mru with attention := attentionRaise s.mru.attention .bayState } } false))) ∧
    (s.phase = .running → s.bays[b].state = .powerFault → s.bays[b].backoffDeadline = some d →
      exec (.backoffExpiry b) s = .next (State.afterBay (Requeued s b) true))

/-- R11, R12, R17 to R19, R21 to R23, R36, R63: the power actions, in each of the ten states. A POWER_OFF under power releases the charges and starts the drain, and a class of
drain time 0 passes on to PARKED at once; the released charges are a consideration. The reply carries the bay and its status code after the action. -/
def Obligations.PowerActionsByState : Prop :=
  ∀ (b : BayId) (tag : Byte) (s : State), Serves s →
    exec (.powerOn tag (u8 b.val)) s = .next (
      match s.bays[b].state with
      | .presentOff | .parked => 
        let t := (Requeued s b).consider
        t.reply tag .done [u8 b.val, u8 t.bays[b].state.code]
      | .queued | .ramping | .powered => s.reply tag .done [u8 b.val, u8 s.bays[b].state.code]
      | _ => s.reply tag .refused [u8 b.val, u8 s.bays[b].state.code]) ∧
    exec (.powerOff tag (u8 b.val)) s = .next (
      match s.bays[b].state with
      | .presentOff | .powerFault => (Parked s b).reply tag .done [u8 b.val, 7]
      | .queued =>
        State.reply (Parked { s with psq := { s.psq with queue := s.psq.queue.filter fun e => e.bay != b } } b) tag .done [u8 b.val, 7]
      | .ramping | .powered =>
        let u := Draining s b false
        let t := (if s.tables.classes[s.bays[b].cls].drainTime = 0 then Parked u b else u).consider
        t.reply tag .done [u8 b.val, u8 t.bays[b].state.code]
      | .removing | .parked =>
        State.reply { s with bays := s.bays.set b { s.bays[b] with shedParked := false } } tag .done
          [u8 b.val, u8 s.bays[b].state.code]
      | _ => s.reply tag .refused [u8 b.val, u8 s.bays[b].state.code]) ∧
    exec (.clearLockout tag (u8 b.val)) s = .next (
      match s.bays[b].state with
      | .lockedOut =>
        State.reply { s with bays := s.bays.set b { s.bays[b] with state := .presentOff, retryCount := 0 } } tag .done [u8 b.val, 2]
      | _ => s.reply tag .refused [u8 b.val, u8 s.bays[b].state.code])

/-- R24: the identify flag and the marks are set and cleared in every bay state, and no other field changes; a mark number outside 1 to 3 is BAD_VALUE. -/
def Obligations.IdentifyAndMarksInEveryState : Prop :=
  ∀ (b : BayId) (tag : Byte) (s : State), Serves s →
    exec (.identifyOn tag (u8 b.val)) s = .next (State.reply
      { s with bays := s.bays.set b { s.bays[b] with identify := true } } tag .done [u8 b.val, u8 s.bays[b].state.code]) ∧
    exec (.identifyOff tag (u8 b.val)) s = .next (State.reply
      { s with bays := s.bays.set b { s.bays[b] with identify := false } } tag .done [u8 b.val, u8 s.bays[b].state.code]) ∧
    (∀ n : Fin 3,
      exec (.markSet tag (u8 b.val) (u8 (n.val + 1))) s = .next (State.reply
        { s with bays := s.bays.set b { s.bays[b] with marks := s.bays[b].marks.set n true } } tag .done
        [u8 b.val, u8 s.bays[b].state.code]) ∧
      exec (.markClear tag (u8 b.val) (u8 (n.val + 1))) s = .next (State.reply
        { s with bays := s.bays.set b { s.bays[b] with marks := s.bays[b].marks.set n false } } tag .done
        [u8 b.val, u8 s.bays[b].state.code])) ∧
    (∀ m : Byte, m = 0 ∨ 4 ≤ m.toNat →
      exec (.markSet tag (u8 b.val) m) s = .next (s.reply tag .badValue []) ∧
      exec (.markClear tag (u8 b.val) m) s = .next (s.reply tag .badValue []))


/-- R4: ENn is asserted exactly while the bay is RAMPING or POWERED; every EN is deasserted in the state after power-on reset; and a controller reset, from RSTn and at
the end of a RESTART alike, leaves EN asserted for the POWERED bays and deasserts it for the others. -/
def Obligations.EnableFollowsBayState : Prop :=
  (∀ (s : State) (b : BayId), s.en b = true ↔ (s.bays[b].state = .ramping ∨ s.bays[b].state = .powered)) ∧
  (∀ b : BayId, State.reset.en b = false) ∧
  (∀ (s t : State), exec .powerOnReset s = .next t → ∀ b : BayId, t.en b = false) ∧
  (∀ (s : State) (byPin : Bool) (b : BayId), (s.controllerReset byPin).en b = true ↔ s.bays[b].state = .powered) ∧
  (∀ (s t : State), s.phase = .running ∨ s.phase = .resetLoad → exec .controllerReset s = .next t →
    ∀ b : BayId, t.en b = true ↔ s.bays[b].state = .powered)

/-! ### The power sequencer (chapter 2) -/

/-- R31: a bay that joins stands after every entry of its own or a lower priority number and before every entry of a higher one; the others keep their order. -/
def Obligations.JoiningBayStandsBehindItsBand : Prop :=
  ∀ (e : QueueEntry) (q : List QueueEntry), (q.Pairwise fun x y => x.priority ≤ y.priority) →
    ∃ front back : List QueueEntry, q = front ++ back ∧ insertEntry e q = front ++ e :: back ∧
      (∀ x ∈ front, x.priority ≤ e.priority) ∧ (∀ x ∈ back, e.priority < x.priority) ∧
      (insertEntry e q).Pairwise fun x y => x.priority ≤ y.priority

/-- R40 to R43, R48, R65, R82: the bay a consideration grants: where conditions 1, 2, 7 and 8 hold, the head of the queue if it meets conditions 3 to 6 in STRICT, and in FIT_FIRST
the first entry that meets them. The link is lost, for power, for the drive sources and for cooling, exactly in LOST, and in FAULT once the lost latch is set. -/
def Obligations.ChoiceFollowsAdmissionAndOrder : Prop :=
  ∀ (s : State) (b : BayId),
    (s.choice = some b ↔
      (s.psq.rampingCount < s.tables.limits.maxRamps ∧
        (∀ start, s.psq.stagger = some start → start + s.tables.limits.stagger * 10 ≤ s.tb.now) ∧
        (s.tables.limits.autonomous = true ∨ s.linkLost = false) ∧ s.psq.quiescePending = false) ∧
      ((s.tables.limits.orderMode = .strict ∧ ∃ e rest, s.psq.queue = e :: rest ∧ e.bay = b ∧ Fits s b) ∨
       (s.tables.limits.orderMode = .fitFirst ∧
        ∃ front e back, s.psq.queue = front ++ e :: back ∧ e.bay = b ∧ Fits s b ∧ ∀ x ∈ front, ¬ Fits s x.bay))) ∧
    (s.linkLost = true ↔ s.liu.link = .lost ∨ (s.liu.link = .fault ∧ s.liu.lostLatch = true))

/-- R13, R36, R41, R44, R46: a consideration of a running part. With a choice it grants that bay: its charges and deadlines are those of its class, the sums and the ramping count
rise, it leaves the queue, and the stagger timer restarts; with a stagger above 0 that is all, and with a stagger of 0 the consideration goes on with a fresh choice, until one yields
none. With no choice nothing changes, and in a part that does not run nothing is considered. Stagger expiry, at a tick after the start at which the interval has passed, leaves the
timer expired and is a consideration. Model's choice (log 9): the row given at the start itself, or before the interval has passed, changes nothing. -/
def Obligations.StaggerExpiryGrantsTheChoice : Prop :=
  (∀ (s : State) (start : Nat), s.phase = .running → s.psq.stagger = some start →
    let expired : State := { s with psq := { s.psq with stagger := none } }
    (start < s.tb.now → start + s.tables.limits.stagger * 10 ≤ s.tb.now →
      exec .staggerExpiry s = .next expired.consider ∧
      (∀ b : BayId, s.tables.limits.stagger ≠ 0 → expired.choice = some b → exec .staggerExpiry s = .next (Granted expired b)) ∧
      (expired.choice = none → exec .staggerExpiry s = .next expired)) ∧
    (s.tb.now ≤ start ∨ s.tb.now < start + s.tables.limits.stagger * 10 → exec .staggerExpiry s = .next s)) ∧
  (∀ s : State, s.phase = .running →
    (∀ b : BayId, s.choice = some b →
      (s.tables.limits.stagger ≠ 0 → s.consider = Granted s b) ∧
      (s.tables.limits.stagger = 0 → s.psq.queue.length ≤ 24 → s.consider = (Granted s b).consider)) ∧
    (s.choice = none → s.consider = s) ∧
    (s.tables.limits.stagger = 0 → s.psq.queue.length ≤ 24 → s.consider.choice = none)) ∧
  (∀ s : State, s.phase ≠ .running → s.consider = s)

/-- R37, R40, R41, R101, R181: power is new only by a grant: a bay that has none before a command and has some after it is RAMPING, in a running part, out of HOLD,
with the link not lost or autonomous power YES, no quiesce pending, the stagger timer started now, and the ramping count and the sums it raised within their
limits. -/
def Obligations.NewPowerObeysAdmission : Prop :=
  ∀ (c : Instr) (s t : State) (b : BayId), exec c s = .next t → s.en b = false → t.en b = true →
    t.bays[b].state = .ramping ∧ t.phase = .running ∧ t.zones[t.tables.baySettings[b].zone].hold = false ∧
    (t.tables.limits.autonomous = true ∨ t.linkLost = false) ∧ t.psq.quiescePending = false ∧
    t.psq.stagger = some t.tb.now ∧ t.psq.rampingCount ≤ t.tables.limits.maxRamps ∧
    t.psq.committed12 ≤ t.tables.limits.rail12 ∧ t.psq.committed5 ≤ t.tables.limits.rail5 ∧
    t.psq.branch[groupOf b] ≤ t.tables.limits.branch[groupOf b] ∧ t.bays[b].lastGrant = some t.uptime

/-- R51: the candidate of a zone is the POWERED bay of the zone of lowest nonzero shed rank and, among equals, of higher bay number. -/
def Obligations.ShedCandidateIsLowestRankHighestBay : Prop :=
  ∀ (s : State) (z : ZoneId) (b : BayId),
    (s.shedCandidate z = some b ↔
      Sheddable s z b ∧ ∀ b' : BayId, Sheddable s z b' →
        s.tables.baySettings[b].shedRank < s.tables.baySettings[b'].shedRank ∨
        (s.tables.baySettings[b].shedRank = s.tables.baySettings[b'].shedRank ∧ b' ≤ b)) ∧
    (s.shedCandidate z = none ↔ ∀ b' : BayId, ¬ Sheddable s z b')

/-- R16, R17, R36, R50, R51, R63: a shed that falls due takes the candidate to REMOVING with its flag set (a class whose drain time is 0 passes straight on, to QUEUED or in
HOLD to PARKED), releases its charges, makes its drive source ABSENT, raises ZONE_SHED and starts INTERVAL; with no candidate the record enters OWED. -/
def Obligations.ShedDueTakesTheCandidate : Prop :=
  ∀ (s : State) (z : ZoneId) (c : Instr) (start : Nat), s.phase = .running →
    (c = .shedDelayReached z ∧ s.psq.shed[z] = .delay start ∧ start + s.tables.zones[z].shedDelay * 1000 ≤ s.tb.now) ∨
    (c = .shedIntervalReached z ∧ s.psq.shed[z] = .interval start ∧
      start + s.tables.zones[z].shedInterval * 1000 ≤ s.tb.now) →
    (s.shedCandidate z = none →
      exec c s = .next (State.afterBay { s with psq := { s.psq with shed := s.psq.shed.set z .owed } } false)) ∧
    (∀ b : BayId, s.shedCandidate z = some b → 0 < s.tables.classes[s.bays[b].cls].drainTime →
      exec c s = .next (State.afterBay
        { s with
          bays := s.bays.set b
            { s.bays[b] with
              state := .removing, charge12 := 0, charge5 := 0, steady12 := 0, rampDeadline := none, pgDeadline := none
              shedParked := true
              drainDeadline := some (s.tb.now + s.tables.classes[s.bays[b].cls].drainTime * 100) }
          drives := s.drives.set b { state := .absent, value := none, reportTime := none }
          psq := { s.psq with
            committed12 := s.psq.committed12 - s.bays[b].charge12
            committed5 := s.psq.committed5 - s.bays[b].charge5
            branch := s.psq.branch.set (groupOf b) (s.psq.branch[groupOf b] - s.bays[b].charge12)
            shed := s.psq.shed.set z (.interval s.tb.now) }
          mru := { s.mru with attention := attentionRaise s.mru.attention .zoneShed } } true)) ∧
    (∀ b : BayId, s.shedCandidate z = some b → s.tables.classes[s.bays[b].cls].drainTime = 0 →
      exec c s = .next ((Shed s z b).afterBay true) ∧
      (Shed s z b).bays[b].state = (if s.zones[z].hold then .parked else .queued) ∧ (Shed s z b).bays[b].shedParked = s.zones[z].hold)

/-! ### Temperature sources (chapter 3) -/

/-- R55 to R57: the conversion that is next in the control period. One in the bands sets the sensor OK with the reading held, clamped to −40.0 °C and 125.0 °C; one out of
the bands sets it FAILED, keeps what was held, and raises SENSOR_FAILED when the sensor was not FAILED. The sensors are converted once each, S0 first and S3 last. Model's choices: the
conversion sets the reading of its THERM input (log 14), it sets the state at once also in the first period (log 36, DEDUCED), and one out of its turn leaves the part as it is (log 9). -/
def Obligations.ConversionSetsTheSensor : Prop :=
  ∀ (k : SensorId) (r : Int) (s : State),
    (s.phase = .running → s.converted = k.castSucc →
      (-90 ≤ r → r ≤ 260 →
        exec (.sensorConversion k r) s = .next
          { s with
            sensors := s.sensors.set k { state := .ok, held := some (max (-80) (min 250 r)) }
            therm := s.therm.set k r, converted := k.succ }) ∧
      (r < -90 ∨ 260 < r → s.sensors[k].state ≠ .failed →
        exec (.sensorConversion k r) s = .next
          { s with
            sensors := s.sensors.set k { state := .failed, held := s.sensors[k].held }
            therm := s.therm.set k r, converted := k.succ
            mru := { s.mru with attention := attentionRaise s.mru.attention .sensorFailed } }) ∧
      (r < -90 ∨ 260 < r → s.sensors[k].state = .failed →
        exec (.sensorConversion k r) s = .next { s with therm := s.therm.set k r, converted := k.succ })) ∧
    (s.phase ≠ .running ∨ s.converted ≠ k.castSucc → exec (.sensorConversion k r) s = .next s)

/-- R61, R62, R172: a report of 1 to 64 pairs is applied pair by pair, in order: a pair whose slot the bay map gives to a POWERED bay makes its source VALID, with
values above 125 taken as 125, or ABSENT for 255; every other pair is ignored. A report to ALL is applied in every MRU state and not replied to; one to the own
position is answered DONE. Any other count is BAD_VALUE, or nothing for ALL. -/
def Obligations.ReportAppliesPairsInOrder : Prop :=
  (∀ (tag : Byte) (ps : List (Byte × Byte)) (s : State), s.phase = .running → 1 ≤ ps.length → ps.length ≤ 64 →
    exec (.temperatureReport true tag ps) s = .next (s.applyReport ps) ∧
    (Serves s → exec (.temperatureReport false tag ps) s = .next ((s.applyReport ps).reply tag .done []))) ∧
  (∀ (tag : Byte) (ps : List (Byte × Byte)) (s : State), ps.length = 0 ∨ 64 < ps.length →
    exec (.temperatureReport true tag ps) s = .next s ∧
    (Serves s → exec (.temperatureReport false tag ps) s = .next (s.reply tag .badValue []))) ∧
  (∀ (p : Byte × Byte) (ps : List (Byte × Byte)) (s : State),
    State.applyReport s (p :: ps) = (State.applyReport s [p]).applyReport ps) ∧
  (∀ (slot value : Byte) (b : BayId) (k : SlotId) (s : State),
    bayMapUnique s.tables.bayMap = true → s.tables.bayMap[b] = some k → k.val = slot.toNat → s.bays[b].state = .powered →
    State.applyReport s [(slot, value)] =
      if value = 255 then { s with drives := s.drives.set b { state := .absent, value := none, reportTime := none } }
      else { s with
        drives := s.drives.set b { state := .valid, value := some (min 125 value.toNat), reportTime := some s.tb.now } }) ∧
  (∀ (slot value : Byte) (s : State),
    (∀ (b : BayId) (k : SlotId), s.tables.bayMap[b] = some k → k.val = slot.toNat → s.bays[b].state ≠ .powered) →
    State.applyReport s [(slot, value)] = s)

/-! ### Fans, zones and conditions (chapters 4 and 5) -/

/-- R74: the curve value, at and beyond the ends, at a point, and between two points. -/
def Obligations.CurveValueInterpolates : Prop :=
  ∀ (points : List CurvePoint) (t : Int), 2 ≤ points.length → pointsOrdered points = true →
    (∀ p rest, points = p :: rest → t ≤ p.temp → curveValue points t = p.duty) ∧
    (∀ front p, points = front ++ [p] → p.temp ≤ t → curveValue points t = p.duty) ∧
    (∀ p ∈ points, t = p.temp → curveValue points t = p.duty) ∧
    (∀ front p q back, points = front ++ p :: q :: back → p.temp < t → t < q.temp →
      (curveValue points t : Int) = p.duty + ((q.duty - p.duty) * (t - p.temp)) / (q.temp - p.temp) ∧
      p.duty ≤ curveValue points t ∧ curveValue points t ≤ q.duty)

/-- R55, R79 to R84, R96 to R98: the zones after a control period end, which its four conversions precede, each from its own sources, its fans of stage 1 and its old values. -/
def Obligations.PeriodEndComputesEachZone : Prop :=
  ∀ (s : State) (p : Nat), s.phase = .running → s.tb.nextPeriod = some p → p ≤ s.tb.now → s.converted = 4 →
    ∃ t : State, exec .controlPeriodEnd s = .next t ∧ t.tb = { s.tb with nextPeriod := some (p + 1000) } ∧ t.converted = 0 ∧
      ∀ z : ZoneId,
        let zs := s.tables.zones[z]
        let old := s.zones[z]
        let new := t.zones[z]
        let sources := s.presentSources z
        let failed := (Finset.univ.filter fun f : FanId => s.tables.fans[f].zone = z ∧ s.judgedFans[f].state = .failed).card
        let sensorFailed := ∃ k : SensorId, s.tables.sensors[k].mask[z] = true ∧ s.sensors[k].state = .failed
        let stale := zs.reportsExpected = true ∧
          ∃ b : BayId, s.tables.baySettings[b].zone = z ∧ s.bays[b].state = .powered ∧ s.drives[b].state = .stale
        (∃ raw, new.raw = some raw ∧ (∀ x ∈ sources, curveValue x.2.points x.1 ≤ raw) ∧
          (raw = 0 ∨ ∃ x ∈ sources, curveValue x.2.points x.1 = raw) ∧
          new.held = (if old.held ≤ raw then raw else if zs.hysteresis < old.held - raw then raw else old.held)) ∧
        new.failedFans = failed ∧
        (∃ weight target, new.weightFloor = some weight ∧ new.target = some target ∧
          weight = min 1000 (zs.baseFloor +
            ∑ b : BayId, if s.tables.baySettings[b].zone = z ∧ s.en b = true then s.tables.classes[s.bays[b].cls].weight else 0) ∧
          (new.floors.stale = true ↔ stale) ∧ (new.floors.sensorFail = true ↔ sensorFailed) ∧
          (new.floors.linkLost = s.linkLost) ∧
          target = max (max new.held (max weight (max (if new.floors.stale then zs.staleFloor else 0)
            (max (if new.floors.sensorFail then zs.sensorFailFloor else 0) (if new.floors.linkLost then zs.linkLostFloor else 0)))))
            (if 0 < failed then zs.boostDuty else 0) ∧
          new.output =
            (if old.output < target then
              (if 0 < failed ∨ new.floors.sensorFail = true then target else min target (old.output + zs.slewUp))
            else max target (old.output - zs.slewDown))) ∧
        (new.hold = true ↔
          if old.hold = true then
            ¬ ((∀ x ∈ sources, ∀ h, x.2.hold = some h → x.1 < h - 4) ∧ failed < zs.fansForHold)
          else (∃ x ∈ sources, ∃ h, x.2.hold = some h ∧ h ≤ x.1) ∨ zs.fansForHold ≤ failed) ∧
        (new.shed = true ↔
          if old.shed = true then ¬ (∀ x ∈ sources, ∀ h, x.2.shed = some h → x.1 < h - 4)
          else ∃ x ∈ sources, ∃ h, x.2.shed = some h ∧ h ≤ x.1) ∧
        new.shedSince = (if new.shed then (if old.shed then old.shedSince else some s.tb.now) else none)

/-- R59, R66, R68: the present sources of a zone: each OK sensor whose mask holds it, on the sensor's own curve, and each VALID drive source of a bay of the zone,
on the zone's drive curve; and nothing else. -/
def Obligations.PresentSourcesOfAZone : Prop :=
  ∀ (s : State) (z : ZoneId) (x : Int × Curve),
    x ∈ s.presentSources z ↔
      (∃ (k : SensorId) (h : Int), s.tables.sensors[k].mask[z] = true ∧ s.sensors[k].state = .ok ∧ s.sensors[k].held = some h ∧
        x = (max (-80) (min 250 (h + s.tables.sensors[k].offset)), s.tables.curves[s.tables.sensors[k].curve])) ∨
      (∃ (b : BayId) (v : Nat), s.tables.baySettings[b].zone = z ∧ s.drives[b].state = .valid ∧ s.drives[b].value = some v ∧
        x = (2 * (v : Int), s.tables.curves[s.tables.zones[z].driveCurve]))

/-- R85, R86, R88 to R91: each fan after a control period end: its window judged under its state, its duty from its zone's new output, its compare count, and its
next window open. FAN_FAILED is raised by an entry to FAILED. A RUNNING fan's window that is marked as not judged, because the fan left STARTING at this period end (R90), moves neither
its state nor its counts: the mark, skipWindow, is the model's own (log 13). -/
def Obligations.PeriodEndJudgesAndDrivesFans : Prop :=
  ∀ (s : State) (p : Nat), s.phase = .running → s.tb.nextPeriod = some p → p ≤ s.tb.now → s.converted = 4 →
    ∃ t : State, exec .controlPeriodEnd s = .next t ∧
      (∀ f : FanId,
        let c := s.tables.fans[f]
        let old := s.fans[f]
        let rpm := min 65534 (old.pulses * 60 / c.pulsesPerRev)
        let good := c.floorRpm ≤ rpm
        let out := t.zones[c.zone].output
        let duty := if out = 0 ∧ c.stopAllowed = true then 0 else c.minDuty + (c.maxDuty - c.minDuty) * out / 1000
        let graceOver := ∃ g, old.grace = some g ∧ g + 5000 ≤ s.tb.now
        t.fans[f].lastRpm = some rpm ∧ t.fans[f].duty = duty ∧ t.fans[f].divisor = old.divisor ∧
        t.fans[f].compare = duty * old.divisor / 1000 ∧ t.fans[f].divisorNow = old.divisorNow ∧
        t.fans[f].compareNow = old.compareNow ∧ t.fans[f].pulses = 0 ∧
        (duty = 0 → t.fans[f].state = .stopped ∧ t.fans[f].lowCount = 0 ∧ t.fans[f].goodCount = 0 ∧ t.fans[f].grace = none) ∧
        (duty ≠ 0 → old.state = .stopped → t.fans[f].state = .starting ∧ t.fans[f].grace = some s.tb.now) ∧
        (duty ≠ 0 → old.state = .starting → graceOver →
          t.fans[f].state = .running ∧ t.fans[f].lowCount = 0 ∧ t.fans[f].goodCount = 0) ∧
        (duty ≠ 0 → old.state = .starting → ¬ graceOver →
          t.fans[f].state = .starting ∧ t.fans[f].grace = old.grace ∧ t.fans[f].lowCount = old.lowCount ∧
          t.fans[f].goodCount = old.goodCount) ∧
        (duty ≠ 0 → old.state = .running → old.skipWindow = false →
          (good → t.fans[f].state = .running ∧ t.fans[f].lowCount = 0) ∧
          (¬ good → old.lowCount + 1 < 3 → t.fans[f].state = .running ∧ t.fans[f].lowCount = old.lowCount + 1) ∧
          (¬ good → 3 ≤ old.lowCount + 1 →
            t.fans[f].state = .failed ∧ t.fans[f].lowCount = 0 ∧ t.fans[f].goodCount = 0 ∧ t.has .fanFailed = true)) ∧
        (duty ≠ 0 → old.state = .running → old.skipWindow = true →
          t.fans[f].state = .running ∧ t.fans[f].lowCount = old.lowCount ∧ t.fans[f].goodCount = old.goodCount) ∧
        t.fans[f].skipWindow = false ∧
        (duty ≠ 0 → old.state = .failed →
          (¬ good → t.fans[f].state = .failed ∧ t.fans[f].goodCount = 0) ∧
          (good → old.goodCount + 1 < 3 → t.fans[f].state = .failed ∧ t.fans[f].goodCount = old.goodCount + 1) ∧
          (good → 3 ≤ old.goodCount + 1 → t.fans[f].state = .running ∧ t.fans[f].lowCount = 0 ∧ t.fans[f].goodCount = 0)))

/-- R32, R50, R97, R100, R101, R104: what a control period end does to power. Let u be the state before the consideration: in it the shed-parked PARKED bays of the zones whose HOLD
clears have entered QUEUED as one group, in ascending bay-number order, each with its class copied and its flag cleared, and every other bay keeps its record; the shed engine follows
SHED; ZONE_HOLD is raised where HOLD is set. One consideration follows where the HOLD of a zone clears, and none where none does. In a part whose queue holds the QUEUED bays, every bay that
is neither QUEUED nor returned keeps its record to the end, and so its power. Everything outside the zones, the fans, the bays and the sequencer is as before. -/
def Obligations.PeriodEndMovesOnlyShedParkedBays : Prop :=
  ∀ (s : State) (p : Nat), s.phase = .running → s.tb.nextPeriod = some p → p ≤ s.tb.now → s.converted = 4 →
    ∃ u t : State, exec .controlPeriodEnd s = .next t ∧
      u = { s with
        tb := { s.tb with nextPeriod := some (p + 1000) }, converted := 0, bays := u.bays, zones := u.zones, fans := u.fans
        psq := { s.psq with queue := u.psq.queue, shed := u.psq.shed }
        mru := { s.mru with attention := u.mru.attention } } ∧
      (let clears (z : ZoneId) : Prop := s.zones[z].hold = true ∧ u.zones[z].hold = false
       let returned (b : BayId) : Prop :=
        s.bays[b].state = .parked ∧ s.bays[b].shedParked = true ∧ clears s.tables.baySettings[b].zone
       ((∃ z : ZoneId, clears z) → t = u.consider) ∧ ((∀ z : ZoneId, ¬ clears z) → t = u) ∧
       u.psq.queue = joinedQueue s returned s.psq.queue ∧
       (∀ b : BayId, u.bays[b] =
        if returned b then
          { s.bays[b] with
            state := .queued, cls := s.tables.baySettings[b].cls, shedParked := false, backoffDeadline := none, drainDeadline := none }
        else s.bays[b]) ∧
       (QueueSound s → ∀ b : BayId, s.bays[b].state ≠ .queued → ¬ returned b → t.bays[b] = s.bays[b])) ∧
      (∀ z : ZoneId, u.psq.shed[z] =
        if u.zones[z].shed = true ∧ s.zones[z].shed = false then .delay s.tb.now
        else if s.zones[z].shed = true ∧ u.zones[z].shed = false then .idle else s.psq.shed[z]) ∧
      (∀ z : ZoneId, s.zones[z].hold = false → u.zones[z].hold = true → u.has .zoneHold = true)

/-- R86, R88, R90: a tach edge counts up to 65535; the end of a PWM cycle puts the values loaded most recently into effect; and at a period end whose grace has
passed a STARTING fan enters RUNNING with cleared counts. Model's choices: that row acts alone, at a period end that has come, and marks the window as one not judged (log 13); the
grace start becomes absent there (log 41). -/
def Obligations.TachEdgePwmCycleAndGrace : Prop :=
  ∀ (f : FanId) (s : State),
    (s.phase = .running →
      exec (.tachEdge f) s = .next
        { s with fans := s.fans.set f { s.fans[f] with pulses := min 65535 (s.fans[f].pulses + 1) } }) ∧
    exec (.pwmCycleEnd f) s = .next
      { s with fans := s.fans.set f { s.fans[f] with divisorNow := s.fans[f].divisor, compareNow := s.fans[f].compare } } ∧
    (∀ p g : Nat, s.phase = .running → s.tb.nextPeriod = some p → p ≤ s.tb.now → s.fans[f].state = .starting →
      s.fans[f].grace = some g → g + 5000 ≤ s.tb.now →
      exec (.fanGraceExpiry f) s = .next
        { s with
          fans := s.fans.set f
            { s.fans[f] with state := .running, grace := none, lowCount := 0, goodCount := 0, skipWindow := true } })

/-! ### Lights (chapter 6) -/

/-- R110 to R114, R117 to R122, R124, R125, R127: each indication is active exactly while its condition holds, and the level of a pattern at an offset is that of the step that
holds it, the steps laid end to end; its length is the sum of its durations. A light tick selects on every line the candidate of highest level and, among equals, of lowest id. A dark line is off; a SHARED
pattern stands at the clock's phase; a RESTART pattern starts again at a change of indication or pattern or at a rewrite, and otherwise moves on; a MANUAL line holds
its level. The tick advances the clock and changes nothing outside the LEN but the time of the next tick. -/
def Obligations.LightTickShowsTheHighestCandidate : Prop :=
  (∀ (s : State) (b : BayId) (id : IndicationId), s.active b id = true ↔ IndicationHolds s b id) ∧
  (∀ (front : List PatternStep) (st : PatternStep) (back : List PatternStep) (k : Nat), k < st.duration →
    levelAt (front ++ st :: back) ((front.map (·.duration)).sum + k) = st.on) ∧
  (∀ p : Pattern, p.length = (p.steps.map (·.duration)).sum) ∧
  ∀ (s : State) (n : Nat), s.phase = .running → s.tb.nextLight = some n → n ≤ s.tb.now →
    ∃ t : State, exec .lightTick s = .next t ∧
      t = { s with
        tb := { s.tb with nextLight := some (n + 10) }
        len := { s.len with
          lineA := t.len.lineA, lineB := t.len.lineB, active := t.len.active, written := Vector.replicate 16 false
          clock := (s.len.clock + 1) % 4294967296 } } ∧
      (∀ (b : BayId) (id : IndicationId), t.len.active[b][id] = s.active b id) ∧
      ∀ (b : BayId) (ln : LineName),
        let new : Line := match ln with | .a => t.len.lineA[b] | .b => t.len.lineB[b]
        let old : Line := match ln with | .a => s.len.lineA[b] | .b => s.len.lineB[b]
        new.manual = old.manual ∧ new.driven = new.manual.getD new.engine ∧
        (new.shown = none ↔ ∀ id : IndicationId, ¬ Candidate s b ln id) ∧
        (∀ id : IndicationId, new.shown = some id ↔
          Candidate s b ln id ∧ ∀ id' : IndicationId, Candidate s b ln id' →
            s.tables.indications[id'].level < s.tables.indications[id].level ∨
            (s.tables.indications[id'].level = s.tables.indications[id].level ∧ id ≤ id')) ∧
        (new.shown = none → new.pattern = none ∧ new.offset = 0 ∧ new.engine = false) ∧
        (∀ id : IndicationId, new.shown = some id →
          ∃ p : PatternId, (s.tables.indications[id]).patternFor ln = some p ∧ new.pattern = some p ∧
            (s.tables.patterns[p].mode = .shared →
              new.offset = 0 ∧ new.engine = levelAt s.tables.patterns[p].steps (s.len.clock % s.tables.patterns[p].length)) ∧
            (s.tables.patterns[p].mode = .restart →
              new.engine = levelAt s.tables.patterns[p].steps new.offset ∧
              new.offset =
                if old.shown ≠ some id ∨ old.pattern ≠ some p ∨ s.len.written[p] = true ∨ s.tables.patterns[p].length ≤ old.offset + 1
                then 0 else old.offset + 1))

/-- R124 to R126: a LINE SET acts on every named line of every named bay at once, and on nothing else: MANUAL drives the level, ENGINE the line's engine level. -/
def Obligations.LineSetDrivesNamedLines : Prop :=
  ∀ (tag : Byte) (bays : BitVec 24) (lineA lineB level : Bool) (s : State), lineA = true ∨ lineB = true → Serves s →
    let lines : Byte := u8 ((if lineA then 1 else 0) + if lineB then 2 else 0)
    exec (.lineSetManual tag (bays.setWidth 32) lines (flagByte level)) s = .next (State.reply
      { s with
        len := { s.len with
          lineA := Vector.ofFn fun b =>
            if bays.getLsbD b.val ∧ lineA then { s.len.lineA[b] with manual := some level, driven := level } else s.len.lineA[b]
          lineB := Vector.ofFn fun b =>
            if bays.getLsbD b.val ∧ lineB then { s.len.lineB[b] with manual := some level, driven := level }
            else s.len.lineB[b] } } tag .done []) ∧
    exec (.lineSetEngine tag (bays.setWidth 32) lines (flagByte level)) s = .next (State.reply
      { s with
        len := { s.len with
          lineA := Vector.ofFn fun b =>
            if bays.getLsbD b.val ∧ lineA then { s.len.lineA[b] with manual := none, driven := s.len.lineA[b].engine }
            else s.len.lineA[b]
          lineB := Vector.ofFn fun b =>
            if bays.getLsbD b.val ∧ lineB then { s.len.lineB[b] with manual := none, driven := s.len.lineB[b].engine }
            else s.len.lineB[b] } } tag .done [])

/-- R62, R64, R111: a VALID drive source whose report is as old as the drive age limit becomes STALE, keeps its value and loses its report time, and a younger one is
left; a stretch deadline that is reached becomes absent, and one that is not yet reached stays. Model's choice (log 9): the row given before its time changes nothing. -/
def Obligations.OldReportsAndStretchesEnd : Prop :=
  ∀ (b : BayId) (s : State),
    (∀ t0 : Nat, s.drives[b].state = .valid → s.drives[b].reportTime = some t0 →
      (t0 + s.tables.link.driveAgeLimit * 1000 ≤ s.tb.now →
        exec (.driveAgeExpiry b) s = .next
          { s with drives := s.drives.set b { state := .stale, value := s.drives[b].value, reportTime := none } }) ∧
      (s.tb.now < t0 + s.tables.link.driveAgeLimit * 1000 → exec (.driveAgeExpiry b) s = .next s)) ∧
    (∀ d : Nat, s.smap[b].stretch = some d →
      (d ≤ s.tb.now →
        exec (.activityStretchExpiry b) s = .next
          { s with smap := s.smap.set b { condition := s.smap[b].condition, stretch := none } }) ∧
      (s.tb.now < d → exec (.activityStretchExpiry b) s = .next s))

/-! ### The link (chapters 7 and 8) -/

/-- R135, R136, R139: a training word in TRAINING. A word of the other kind with the training hop adds 1 to the count, any other starts it afresh, and each is
answered; at 8 the link is ALIGNED, its position the hop, and the downstream port probes with the next hop. A hop above 3 takes the link to FAULT, unanswered, and to the loss of it where the autonomy timeout has passed (R138). DEDUCED
(log 22): the count and the training hop are discarded on leaving TRAINING, and the model's field answered keeps the last word answered. -/
def Obligations.TrainingCountsAlternations : Prop :=
  ∀ (k k0 : TrainKind) (h h0 : BitVec 4) (s : State), s.liu.link = .training → s.liu.trainWord = some (k0, h0) →
    let count := if k ≠ k0 ∧ h = h0 then s.liu.alternation + 1 else 0
    (h.toNat ≤ 3 → count < 8 →
      exec (.trainingWord k h) s = .next
        { s with
          liu := { s.liu with
            alternation := count, trainWord := some (k, h), answered := some (k, h), upLane := .training k h } }) ∧
    (∀ hp : h.toNat < 4, 8 ≤ count →
      exec (.trainingWord k h) s = .next
        { s with
          liu := { s.liu with
            link := .aligned, position := some ⟨h.toNat, hp⟩, silenceStart := some s.tb.now, alternation := 0, trainWord := none
            answered := some (k, h), frameTaken := false, upLane := .fill, port := .probing, probeStart := some s.tb.now
            probeCount := 0, probeAnswer := none, retryDue := none, returnWatch := none, downLane := .probing (h.toNat + 1)
            forwardQueue := [] } }) ∧
    (3 < h.toNat →
      exec (.trainingWord k h) s = .next (Faulted s s.liu.errorCount))

/-- R134, R135, R136, R138, R139, R143: a training word in DISABLED, or in ALIGNED before a valid frame is taken there, is ignored. In LISTEN, SILENT, LOST and FAULT, and
in ALIGNED afterwards, it takes the link to TRAINING, or to FAULT for a hop above 3, where the link is lost at once if the autonomy timeout has passed. Nothing but the LIU
changes, beside that loss, the consideration that a link makes which stops being lost, and the controller reset of a RESTART whose reply is lost with the queue (R178, R179).
DEDUCED: that reset is taken in this row (log 12); a hop above 3 in LOST or FAULT is one transition (log 21); what of the training is discarded (log 22). -/
def Obligations.TrainingWordRetrainsTheLink : Prop :=
  ∀ (k : TrainKind) (h : BitVec 4) (s : State),
    let sendingEnds (u : State) : State := if isSending s.mru.state then u.controllerReset false else u
    (s.liu.link = .disabled ∨ (s.liu.link = .aligned ∧ s.liu.frameTaken = false) → exec (.trainingWord k h) s = .next s) ∧
    (s.liu.link = .listen ∨ s.liu.link = .silent ∨ s.liu.link = .lost ∨ s.liu.link = .fault ∨
        (s.liu.link = .aligned ∧ s.liu.frameTaken = true) →
      (h.toNat ≤ 3 →
        exec (.trainingWord k h) s = .next (sendingEnds (State.considerIf
          { s with
            liu := { s.liu with
              link := .training, errorCount := 0, outstanding := [], lostLatch := false, alternation := 0
              trainWord := some (k, h), answered := some (k, h), upLane := .training k h, frameTaken := false
              pendingReturns := [], replyQueue := [], port := .off, probeStart := none, probeCount := 0, probeAnswer := none
              retryDue := none, returnWatch := none, downLane := .idle, forwardQueue := [] } } s.linkLost))) ∧
      (3 < h.toNat → exec (.trainingWord k h) s = .next (sendingEnds (Faulted s 0))))

/-- R132, R134, R135, R137 to R139, R141, R145, R146, R179: what the upstream input does to the link. A valid frame taken in ALIGNED or SILENT returns the link to ALIGNED, sets the silence
start and works the count down by 1; a probe that waited starts (R145), and the quiet lane of an ALIGNED port carries frames again, the oldest that waits or FILL (R146); a bad frame adds 8, held at 256, raises LINK_WARNING when it carries the count to 96 or above, and at 256 takes the link to
FAULT, with the loss of it where the autonomy timeout has passed and the controller reset of a RESTART whose reply is lost with the queue. In TRAINING a start word or data word ends the
training; in the other states frames are ignored. DEDUCED: a whole frame in TRAINING is its start word (log 15); the marks cleared at FAULT (log 22); the reset taken in this row
(log 12). -/
def Obligations.FramesMoveTheErrorCount : Prop :=
  ∀ (s : State) (n : Byte) (slots : Slots) (target tag kind : Byte) (payload : List Byte),
    (s.liu.link = .aligned ∨ s.liu.link = .silent →
      (∃ t : State, exec .upstreamFill s = .next t ∧ t = { s with liu := t.liu } ∧ t.liu.link = .aligned ∧
        t.liu.silenceStart = some s.tb.now ∧ t.liu.errorCount = s.liu.errorCount - 1 ∧ t.liu.frameTaken = true ∧
        t.liu.position = s.liu.position ∧ t.liu.upLane = s.liu.upLane ∧ t.liu.pendingReturns = s.liu.pendingReturns ∧
        t.liu.replyQueue = s.liu.replyQueue ∧ t.liu.outstanding = s.liu.outstanding) ∧
      exec .upstreamFill s = .next s.acceptFrame.resumeDown ∧
      (let probeWaits : Prop := s.liu.link = .silent ∧ s.liu.port = .absent ∧ ∃ d, s.liu.retryDue = some d ∧ d ≤ s.tb.now
       let taken : Liu := { s.liu with link := .aligned, silenceStart := some s.tb.now, errorCount := s.liu.errorCount - 1, frameTaken := true }
       (¬ probeWaits → s.acceptFrame = { s with liu := taken }) ∧
       (∀ p : Fin 4, probeWaits → s.liu.position = some p → s.acceptFrame =
        { s with
          liu := { taken with
            port := .probing, probeStart := some s.tb.now, probeCount := 0, probeAnswer := none, retryDue := none, returnWatch := none
            downLane := .probing (p.val + 1), forwardQueue := [] } })) ∧
      (s.liu.errorCount + 8 < 256 →
        exec .upstreamBadFrame s = .next
          { s with
            liu := { s.liu with errorCount := s.liu.errorCount + 8 }
            mru := { s.mru with
              attention :=
                if s.liu.errorCount < 96 ∧ 96 ≤ s.liu.errorCount + 8 then attentionRaise s.mru.attention .linkWarning
                else s.mru.attention } }) ∧
      (256 ≤ s.liu.errorCount + 8 →
        exec .upstreamBadFrame s = .next
          (if isSending s.mru.state then (Faulted s 256).controllerReset false else Faulted s 256))) ∧
    (s.liu.link = .training →
      ∀ c ∈ [Instr.trainingInterrupted, .upstreamBadFrame, .upstreamFill, .upstreamSweep n slots, .upstreamRequest target tag kind payload],
        ∃ t : State, exec c s = .next t ∧ t = { s with liu := t.liu } ∧ t.liu.link = .listen ∧ t.liu.trainWord = none ∧
          t.liu.alternation = 0 ∧ t.liu.silenceStart = s.liu.silenceStart ∧ t.liu.errorCount = s.liu.errorCount ∧
          t.liu.upLane = .idle) ∧
    (s.liu.link = .disabled ∨ s.liu.link = .listen ∨ s.liu.link = .lost ∨ s.liu.link = .fault →
      ∀ c ∈ [Instr.upstreamFill, .upstreamBadFrame, .upstreamSweep n slots, .upstreamRequest target tag kind payload],
        exec c s = .next s) ∧
    (s.liu.link = .aligned → s.liu.port = .aligned → s.liu.downLane = .idle →
      (s.liu.forwardQueue = [] → s.resumeDown = { s with liu := { s.liu with downLane := .fill } }) ∧
      (∀ f fs, s.liu.forwardQueue = f :: fs → s.resumeDown = { s with liu := { s.liu with downLane := .frame f, forwardQueue := fs } })) ∧
    (s.liu.link ≠ .aligned ∨ s.liu.port ≠ .aligned ∨ s.liu.downLane ≠ .idle → s.resumeDown = s)

/-- R142, R146, R155, R157 to R159, R196: a sweep taken in ALIGNED or SILENT. Below a count of 128 it gives every bay the condition and the activity of its slot and clears the
link-lost mark; at or above it changes neither. The condition is in bits 0 to 3 of the slot byte, the activity in bit 7. With the port ALIGNED it is forwarded, behind the frames that wait, and appended to the outstanding sweep list with a deadline of 5 ms, the
entries that must go being given up, oldest first, each with the return that the part originates for it; otherwise the list stays and the part originates the return for the sweep. -/
def Obligations.SweepAppliedAndForwardedOrAnswered : Prop :=
  ∀ (n : Byte) (slots : Slots) (s : State), s.liu.link = .aligned ∨ s.liu.link = .silent → s.liu.outstanding.length ≤ 2 →
    let givenUp (es : List Outstanding) : Liu := es.foldl
      (fun l e => l.pendReturn
        { number := e.number, attention := true, originator := positionByte s.liu.position, slots := s.fillSlots (Vector.replicate 128 0x0F) })
      s.liu
    ∃ t : State, exec (.upstreamSweep n slots) s = .next t ∧
      t = { s with smap := t.smap, len := { s.len with linkLost := t.len.linkLost }, liu := t.liu
                   mru := { s.mru with attention := t.mru.attention } } ∧
      t.liu.link = .aligned ∧ t.liu.silenceStart = some s.tb.now ∧ t.liu.errorCount = s.liu.errorCount - 1 ∧
      (s.liu.errorCount - 1 < 128 →
        t.len.linkLost = false ∧
        ∀ b : BayId, t.smap[b] =
          match s.tables.bayMap[b] with
          | some k =>
            { condition := ⟨slots[k].toNat % 16, Nat.mod_lt _ (by decide)⟩
              stretch := if (slots[k]).getLsbD 7 then some (s.tb.now + 50) else s.smap[b].stretch }
          | none => { s.smap[b] with condition := 0 }) ∧
      (128 ≤ s.liu.errorCount - 1 → t.smap = s.smap ∧ t.len = s.len) ∧
      (s.liu.port = .aligned →
        ((∀ e ∈ s.liu.outstanding, e.number ≠ n) → s.liu.outstanding.length < 2 →
          t.liu.outstanding = s.liu.outstanding ++ [⟨n, s.tb.now + 5⟩] ∧ t.mru = s.mru ∧
          t.liu.pendingReturns = s.liu.pendingReturns) ∧
        ((∀ e ∈ s.liu.outstanding, e.number ≠ n) → s.liu.outstanding.length = 2 →
          t.liu.outstanding = s.liu.outstanding.drop 1 ++ [⟨n, s.tb.now + 5⟩] ∧ t.has .returnMissing = true ∧
          t.liu.pendingReturns = (givenUp (s.liu.outstanding.take 1)).pendingReturns ∧
          t.liu.upLane = (givenUp (s.liu.outstanding.take 1)).upLane) ∧
        (∀ old e young, s.liu.outstanding = old ++ e :: young → e.number = n → (∀ x ∈ old, x.number ≠ n) →
          t.liu.outstanding = young ++ [⟨n, s.tb.now + 5⟩] ∧ t.has .returnMissing = true ∧
          t.liu.pendingReturns = (givenUp (old ++ [e])).pendingReturns ∧ t.liu.upLane = (givenUp (old ++ [e])).upLane) ∧
        (s.liu.downLane ≠ .idle →
          t.liu.downLane = s.liu.downLane ∧ t.liu.forwardQueue = s.liu.forwardQueue ++ [.sweep n slots]) ∧
        (∀ f fs, s.liu.downLane = .idle → s.liu.forwardQueue ++ [.sweep n slots] = f :: fs →
          t.liu.downLane = .frame f ∧ t.liu.forwardQueue = fs)) ∧
      (s.liu.port ≠ .aligned → t.liu.outstanding = s.liu.outstanding ∧ t.mru = s.mru ∧
        (let answered := s.liu.pendReturn
          { number := n, attention := decide (s.mru.attention ≠ 0), originator := positionByte s.liu.position
            slots := s.fillSlots (Vector.replicate 128 0x0F) }
         t.liu.pendingReturns = answered.pendingReturns ∧ t.liu.upLane = answered.upLane) ∧
        (s.liu.link = .aligned → t.liu.forwardQueue = s.liu.forwardQueue ∧ t.liu.downLane = s.liu.downLane) ∧
        (s.liu.upLane ≠ .idle → s.liu.pendingReturns.length < 3 →
          ∃ r : ReturnFrame, t.liu.pendingReturns = s.liu.pendingReturns ++ [r] ∧ r.number = n ∧
            r.originator = positionByte s.liu.position ∧ r.attention = decide (s.mru.attention ≠ 0) ∧
            r.slots = s.fillSlots (Vector.replicate 128 0x0F)))

/-- R7, R67, R159, R160, R196: the part's own slots of a return carry each bay's status code in bits 0 to 3 and, in bit 7, whether its drive source is STALE; every
other slot keeps what the return holds. The ten states have the codes 0 to 9, from EMPTY to LOCKED_OUT. -/
def Obligations.ReturnSlotsCarryStatusCodes : Prop :=
  ∀ (s : State) (slots : Slots), bayMapUnique s.tables.bayMap = true →
    (∀ (b : BayId) (k : SlotId), s.tables.bayMap[b] = some k →
      ((s.fillSlots slots)[k]).toNat = s.bays[b].state.code + (if s.drives[b].state = .stale then 128 else 0)) ∧
    (∀ k : SlotId, (∀ b : BayId, s.tables.bayMap[b] ≠ some k) → (s.fillSlots slots)[k] = slots[k]) ∧
    [BayState.empty, .settling, .presentOff, .queued, .ramping, .powered, .removing, .parked, .powerFault, .lockedOut].map BayState.code =
      [0, 1, 2, 3, 4, 5, 6, 7, 8, 9]

/-- R148, R172, R197: a request taken in ALIGNED or SILENT goes by its target. The state u is the one after the frame has been taken. -/
def Obligations.RequestsGoByTarget : Prop :=
  ∀ (target tag kind : Byte) (payload : List Byte) (s u : State) (p : Fin 4),
    s.liu.link = .aligned ∨ s.liu.link = .silent → s.liu.position = some p → u = s.acceptFrame →
    let forwarded (x : State) : State := { x with liu := x.liu.forward (.request target tag kind payload) }
    let request := decodeRequest (RequestKind.ofByte kind) payload
    (target.toNat = p.val →
      exec (.upstreamRequest target tag kind payload) s = .next (u.hand tag (RequestKind.ofByte kind) request).resumeDown) ∧
    (p.val < target.toNat → target.toNat ≤ 3 → u.liu.port = .aligned →
      exec (.upstreamRequest target tag kind payload) s = .next (forwarded u).resumeDown) ∧
    (p.val < target.toNat → target.toNat ≤ 3 → u.liu.port ≠ .aligned →
      exec (.upstreamRequest target tag kind payload) s = .next (u.reply tag .unreachable []).resumeDown) ∧
    (target.toNat < p.val ∨ (4 ≤ target.toNat ∧ target.toNat ≤ 254) →
      exec (.upstreamRequest target tag kind payload) s = .next u.resumeDown) ∧
    (target.toNat = 255 → kind = 0x21 →
      exec (.upstreamRequest target tag kind payload) s = .next
        (if u.liu.port = .aligned then forwarded (u.handAll request) else u.handAll request).resumeDown) ∧
    (target.toNat = 255 → kind ≠ 0x21 →
      exec (.upstreamRequest target tag kind payload) s = .next u.resumeDown)

/-- R65, R113, R137 to R140, R156, R179: 50 ms of silence take ALIGNED to SILENT; the autonomy timeout in force takes SILENT to LOST, and sets the lost latch in FAULT. A
link that becomes lost makes the drive sources of POWERED bays STALE, sets the link-lost mark, clears the applied sweep, and is a consideration; a RESTART in SENDING loses its reply with
the emptied queue, and its controller reset follows, DEDUCED (log 12) in this row. Model's choice (log 9): each row given before its time changes nothing. -/
def Obligations.SilenceLeadsToLoss : Prop :=
  ∀ (s : State) (t0 : Nat), s.liu.silenceStart = some t0 →
    (s.liu.link = .aligned →
      (t0 + 50 ≤ s.tb.now → exec .silenceTimeout s = .next { s with liu := { s.liu with link := .silent } }) ∧
      (s.tb.now < t0 + 50 → exec .silenceTimeout s = .next s)) ∧
    (s.liu.link = .silent →
      (t0 + s.tables.link.autonomyTimeout * 1000 ≤ s.tb.now →
        ∃ u : State, u = State.consider (Lost s { s.liu with link := .lost, pendingReturns := [], replyQueue := [], upLane := .idle }) ∧
          exec .autonomyTimeout s = .next (if isSending s.mru.state then u.controllerReset false else u)) ∧
      (s.tb.now < t0 + s.tables.link.autonomyTimeout * 1000 → exec .autonomyTimeout s = .next s)) ∧
    (s.liu.link = .fault → s.liu.lostLatch = false →
      (t0 + s.tables.link.autonomyTimeout * 1000 ≤ s.tb.now →
        exec .lostLatchSet s = .next (State.consider (Lost s { s.liu with lostLatch := true }))) ∧
      (s.tb.now < t0 + s.tables.link.autonomyTimeout * 1000 → exec .lostLatchSet s = .next s))

/-- R144, R145: the probe and the timers of the downstream port. A retry that falls due while the upstream link is SILENT or LOST waits, and starts its probe at the moment
the link is ALIGNED again. DEDUCED (log 23): a first answer of any hop counts 0. Model's choice (log 9): the return watch's row given before its time changes nothing. -/
def Obligations.DownstreamPortProbesAndWatches : Prop :=
  (∀ (k : TrainKind) (h : BitVec 4) (s : State) (p : Fin 4), s.liu.port = .probing → s.liu.position = some p →
    (s.liu.probeAnswer = none →
      exec (.probeAnswer k h) s = .next { s with liu := { s.liu with probeAnswer := some k, probeCount := 0 } }) ∧
    (∀ k0, s.liu.probeAnswer = some k0 → k0 = k ∨ h.toNat ≠ p.val + 1 →
      exec (.probeAnswer k h) s = .next { s with liu := { s.liu with probeAnswer := some k, probeCount := 0 } }) ∧
    (∀ k0, s.liu.probeAnswer = some k0 → k0 ≠ k → h.toNat = p.val + 1 → s.liu.probeCount + 1 < 8 →
      exec (.probeAnswer k h) s = .next
        { s with liu := { s.liu with probeAnswer := some k, probeCount := s.liu.probeCount + 1 } }) ∧
    (∀ k0, s.liu.probeAnswer = some k0 → k0 ≠ k → h.toNat = p.val + 1 → 8 ≤ s.liu.probeCount + 1 →
      ∃ t : State, exec (.probeAnswer k h) s = .next t ∧ t = { s with liu := t.liu } ∧ t.liu.port = .aligned ∧
        t.liu.returnWatch = some s.tb.now ∧ (s.liu.link = .aligned → s.liu.forwardQueue = [] → t.liu.downLane = .fill))) ∧
  (∀ (s : State) (t0 : Nat), s.liu.port = .probing → s.liu.probeStart = some t0 → t0 + 10 ≤ s.tb.now →
    exec .probeTimeout s = .next { s with liu := AbsentLiu s.liu s.tb.now }) ∧
  (∀ (s : State) (t0 : Nat), s.liu.port = .aligned → s.liu.returnWatch = some t0 →
    (t0 + 50 ≤ s.tb.now → exec .returnWatchTimeout s = .next { s with liu := AbsentLiu s.liu s.tb.now }) ∧
    (s.tb.now < t0 + 50 → exec .returnWatchTimeout s = .next s)) ∧
  (∀ (s : State) (t0 : Nat) (p : Fin 4), s.liu.port = .absent → s.liu.retryDue = some t0 → t0 ≤ s.tb.now → s.liu.position = some p →
    (s.liu.link = .aligned →
      exec .probeRetry s = .next
        { s with
          liu := { s.liu with
            port := .probing, probeStart := some s.tb.now, probeCount := 0, probeAnswer := none, retryDue := none
            returnWatch := none, downLane := .probing (p.val + 1), forwardQueue := [] } }) ∧
    (s.liu.link = .silent ∨ s.liu.link = .lost → exec .probeRetry s = .next s) ∧
    (s.liu.link = .silent →
      exec .upstreamFill s = .next
        { s with
          liu := { s.liu with
            link := .aligned, silenceStart := some s.tb.now, frameTaken := true, errorCount := s.liu.errorCount - 1
            port := .probing, probeStart := some s.tb.now, probeCount := 0, probeAnswer := none, retryDue := none
            returnWatch := none, downLane := .probing (p.val + 1), forwardQueue := [] } }))

/-- R147, R150, R158, R160 to R162: the frames on the return input of an ALIGNED port and the deadline of the outstanding entries. A return that matches no entry is
late and discarded; one that matches entry k gives up the older entries, is filled, and becomes pending. Two entries whose deadlines are both reached are given up at once, in
sweep order. On the return input of a port that is not ALIGNED no frame is taken. -/
def Obligations.ReturnsAreMatchedOrGivenUp : Prop :=
  (∀ (n : Byte) (att : Bool) (o : Byte) (slots : Slots) (s : State), s.liu.port = .aligned →
    ((∀ e ∈ s.liu.outstanding, e.number ≠ n) →
      exec (.downstreamReturn n att o slots) s = .next { s with liu := { s.liu with returnWatch := some s.tb.now } }) ∧
    (∀ e young, s.liu.outstanding = e :: young → e.number = n →
      exec (.downstreamReturn n att o slots) s = .next
        { s with
          liu := Liu.pendReturn { s.liu with returnWatch := some s.tb.now, outstanding := young }
            { number := n, attention := att || decide (s.mru.attention ≠ 0), originator := o, slots := s.fillSlots slots } }) ∧
    (∀ e0 e young, s.liu.outstanding = e0 :: e :: young → e0.number ≠ n → e.number = n →
      ∃ t : State, exec (.downstreamReturn n att o slots) s = .next t ∧ t.liu.outstanding = young ∧
        t.has .returnMissing = true ∧ t = { s with liu := t.liu, mru := { s.mru with attention := t.mru.attention } } ∧
        (s.liu.link.carriesFrames = true → s.liu.upLane ≠ .idle → s.liu.pendingReturns.length ≤ 1 →
          t.liu.pendingReturns = s.liu.pendingReturns ++
            [{ number := e0.number, attention := true, originator := positionByte s.liu.position
               slots := s.fillSlots (Vector.replicate 128 0x0F) },
             { number := n, attention := true, originator := o, slots := s.fillSlots slots }]))) ∧
  (∀ (src tag st : Byte) (payload : List Byte) (s : State), s.liu.port = .aligned →
    exec (.downstreamReply src tag st payload) s = .next
      { s with liu := Liu.pushReply { s.liu with returnWatch := some s.tb.now } ⟨src, tag, st, payload, false⟩ } ∧
    exec .downstreamOtherFrame s = .next { s with liu := { s.liu with returnWatch := some s.tb.now } }) ∧
  (∀ s : State, exec .downstreamBadFrame s = .next s) ∧
  (∀ (n : Byte) (att : Bool) (o : Byte) (slots : Slots) (src tag st : Byte) (payload : List Byte) (s : State), s.liu.port ≠ .aligned →
    ∀ c ∈ [Instr.downstreamReturn n att o slots, .downstreamReply src tag st payload, .downstreamOtherFrame], exec c s = .next s) ∧
  (∀ s : State,
    ((∀ e rest, s.liu.outstanding = e :: rest → s.tb.now < e.deadline) → exec .outstandingDeadline s = .next s) ∧
    (∀ e rest, s.liu.outstanding = e :: rest → e.deadline ≤ s.tb.now → (∀ e' ∈ rest, s.tb.now < e'.deadline) →
      ∃ t : State, exec .outstandingDeadline s = .next t ∧ t.liu.outstanding = rest ∧ t.has .returnMissing = true ∧
        t = { s with liu := t.liu, mru := { s.mru with attention := t.mru.attention } } ∧
        (s.liu.link.carriesFrames = true → s.liu.upLane ≠ .idle → s.liu.pendingReturns.length ≤ 2 →
          t.liu.pendingReturns = s.liu.pendingReturns ++
            [{ number := e.number, attention := true, originator := positionByte s.liu.position
               slots := s.fillSlots (Vector.replicate 128 0x0F) }])) ∧
    (∀ e0 e1, s.liu.outstanding = [e0, e1] → e0.deadline ≤ s.tb.now → e1.deadline ≤ s.tb.now →
      ∃ t : State, exec .outstandingDeadline s = .next t ∧ t.liu.outstanding = [] ∧ t.has .returnMissing = true ∧
        t = { s with liu := t.liu, mru := { s.mru with attention := t.mru.attention } } ∧
        (s.liu.link.carriesFrames = true → s.liu.upLane ≠ .idle → s.liu.pendingReturns.length ≤ 1 →
          t.liu.pendingReturns = s.liu.pendingReturns ++ [e0, e1].map fun e =>
            { number := e.number, attention := true, originator := positionByte s.liu.position
              slots := s.fillSlots (Vector.replicate 128 0x0F) })))

/-- R146, R149, R150, R167, R178, R196: a reply joins the reply queue at its tail, and a return the pending returns behind those that wait; a reply is discarded where the queue holds
four, a return where three wait, and either where the link carries none; an idle return lane takes its next frame at once. A reply of the part carries its chain position, the tag, the
status code and the payload; the position byte while the position is absent is the model's choice (log 28). At the end of a frame the return lane takes the oldest pending return, else
the reply at the head of the queue, else FILL, and the downstream lane the next frame to be forwarded, else FILL. The end of a RESTART's reply brings the controller reset. DEDUCED: that
reset is taken in this row (log 12); the frames that wait are kept while the downstream lane is quiet (log 24). -/
def Obligations.LanesTakeTheNextFrame : Prop :=
  (∀ (s : State) (tag : Byte) (status : Status) (payload : List Byte),
    s.reply tag status payload =
      { s with
        liu := s.liu.pushReply
          { source := match s.liu.position with | some p => u8 p.val | none => 0xFF
            tag := tag, status := status.code, payload := payload, restart := false } }) ∧
  [Status.done, .busy, .unreachable, .noTable, .badRange, .badValue, .refused, .overLimit, .unknownKind].map Status.code =
    [0, 1, 2, 3, 4, 5, 6, 7, 8] ∧
  (∀ (l : Liu) (r : ReplyFrame),
    ((l.link ≠ .aligned ∧ l.link ≠ .silent) ∨ 4 ≤ l.replyQueue.length → l.pushReply r = l) ∧
    (l.link = .aligned ∨ l.link = .silent → l.replyQueue.length < 4 →
      (l.upLane ≠ .idle → l.pushReply r = { l with replyQueue := l.replyQueue ++ [r] }) ∧
      (∀ x xs, l.upLane = .idle → l.pendingReturns = x :: xs →
        l.pushReply r = { l with upLane := .ret x, pendingReturns := xs, replyQueue := l.replyQueue ++ [r] }) ∧
      (∀ q qs, l.upLane = .idle → l.pendingReturns = [] → l.replyQueue ++ [r] = q :: qs →
        l.pushReply r = { l with upLane := .reply q, replyQueue := qs }))) ∧
  (∀ (l : Liu) (r : ReturnFrame),
    ((l.link ≠ .aligned ∧ l.link ≠ .silent) ∨ 3 ≤ l.pendingReturns.length → l.pendReturn r = l) ∧
    (l.link = .aligned ∨ l.link = .silent → l.pendingReturns.length < 3 →
      (l.upLane ≠ .idle → l.pendReturn r = { l with pendingReturns := l.pendingReturns ++ [r] }) ∧
      (∀ x xs, l.upLane = .idle → l.pendingReturns ++ [r] = x :: xs →
        l.pendReturn r = { l with upLane := .ret x, pendingReturns := xs }))) ∧
  (∀ (s u : State), s.liu.link = .aligned ∨ s.liu.link = .silent →
    u = { s with
      liu :=
        match s.liu.pendingReturns, s.liu.replyQueue with
        | r :: rs, _ => { s.liu with upLane := .ret r, pendingReturns := rs }
        | [], q :: qs => { s.liu with upLane := .reply q, replyQueue := qs }
        | [], [] => { s.liu with upLane := .fill } } →
    (s.liu.upLane = .fill ∨ (∃ r, s.liu.upLane = .ret r) ∨ (∃ q, s.liu.upLane = .reply q ∧ q.restart = false) →
      exec .returnLaneFrameEnd s = .next u) ∧
    (∀ q tag, s.liu.upLane = .reply q → q.restart = true → s.mru.state = .sending tag →
      exec .returnLaneFrameEnd s = .next (u.controllerReset false))) ∧
  (∀ (s : State), s.liu.port = .aligned → s.liu.downLane = .fill ∨ (∃ f, s.liu.downLane = .frame f) →
    (∀ f fs, s.liu.link = .aligned → s.liu.forwardQueue = f :: fs →
      exec .downstreamLaneFrameEnd s = .next { s with liu := { s.liu with downLane := .frame f, forwardQueue := fs } }) ∧
    (s.liu.link = .aligned → s.liu.forwardQueue = [] →
      exec .downstreamLaneFrameEnd s = .next { s with liu := { s.liu with downLane := .fill } }) ∧
    (s.liu.link ≠ .aligned → exec .downstreamLaneFrameEnd s = .next { s with liu := { s.liu with downLane := .idle } }))

/-! ### Requests (chapter 9) -/

/-- R30, R44, R52, R77, R106, R122, R123, R154, R169, R170: a TABLE READ and a TABLE WRITE are answered with the status of the first check that fails, a TABLE READ during a save too, and such a write changes no table; one that passes is
answered DONE, and the entries are replaced together in the transition. What the write does beside that, at once: a bay that loses its slot loses its condition; a bay settings write
gives its classes to the bays off power, re-queues the shed-parked bays it moves out of HOLD, in bay-number order, sheds for the zones it gives a candidate, and is a consideration, as is a
write of the drive classes or the limits; a pattern write marks its patterns; a changed PWM frequency loads the divisor and the compare count anew and starts a turning fan afresh, its
counts cleared (log 35); the other tables do nothing more. DEDUCED (log 33): the classes are taken by every bay that is neither RAMPING nor POWERED, named or not. The index answered is that of
the first entry with a faulty field, else of the first named entry against the table's constraint; for the bay map the higher of it and of the lowest other bay with its slot, DEDUCED (log 25). -/
def Obligations.TableRequestsAnswerInOrder : Prop :=
  (∀ (tag table first count : Byte) (s : State), ServesReads s →
    (11 ≤ table.toNat → exec (.tableRead tag table first count) s = .next (s.reply tag .noTable [])) ∧
    (∀ id : TableId, table.toNat = id.code →
      (count = 0 ∨ id.entries < first.toNat + count.toNat →
        exec (.tableRead tag table first count) s = .next (s.reply tag .badRange [])) ∧
      (count ≠ 0 → first.toNat + count.toNat ≤ id.entries →
        let bytes := s.tables.readEntries id first.toNat count.toNat
        exec (.tableRead tag table first count) s = .next
          (if bytes.length ≤ 237 then s.reply tag .done ([table, first, count] ++ bytes) else s.reply tag .badRange [])))) ∧
  (∀ (tag table first count : Byte) (entries : List Byte) (s : State), Serves s →
    (11 ≤ table.toNat → exec (.tableWrite tag table first count entries) s = .next (s.reply tag .noTable [])) ∧
    (∀ id : TableId, table.toNat = id.code →
      (count = 0 ∨ id.entries < first.toNat + count.toNat →
        exec (.tableWrite tag table first count entries) s = .next (s.reply tag .badRange [])) ∧
      (count ≠ 0 → first.toNat + count.toNat ≤ id.entries →
        ((∀ raws, splitEntries id count.toNat entries ≠ some (raws, [])) →
          exec (.tableWrite tag table first count entries) s = .next (s.reply tag .badValue [])) ∧
        (∀ raws, splitEntries id count.toNat entries = some (raws, []) →
          (∀ i, s.tables.checkWrite id first.toNat raws = .bad i →
            exec (.tableWrite tag table first count entries) s = .next (s.reply tag .badValue [table, u8 i])) ∧
          (∀ t, s.tables.checkWrite id first.toNat raws = .ok t →
            (id = .limits →
              t.limits.rail12 < s.psq.committed12 ∨ t.limits.rail5 < s.psq.committed5 ∨
                (∃ g : GroupId, t.limits.branch[g] < s.psq.branch[g]) →
              exec (.tableWrite tag table first count entries) s = .next (s.reply tag .overLimit [table, 0])) ∧
            (id ≠ .limits ∨
                (s.psq.committed12 ≤ t.limits.rail12 ∧ s.psq.committed5 ≤ t.limits.rail5 ∧
                  ∀ g : GroupId, s.psq.branch[g] ≤ t.limits.branch[g]) →
              exec (.tableWrite tag table first count entries) s = .next
                ((State.takeUp { s with tables := t } id first.toNat count.toNat s.tables).reply tag .done []))))))) ∧
  (∀ (t u : Tables) (id : TableId) (first : Nat) (pre post raws : List (List Byte)) (raw : List Byte),
    (t.putEntries id first pre = .ok u → u.putEntry id (first + pre.length) raw = none →
      t.checkWrite id first (pre ++ raw :: post) = .bad (first + pre.length)) ∧
    (t.putEntries id first raws = .ok u →
      let clash (a b : BayId) : Prop := a ≠ b ∧ u.bayMap[a] ≠ none ∧ u.bayMap[b] = u.bayMap[a]
      let unordered (c : Curve) : Prop :=
        (∃ front p q back, c.points = front ++ p :: q :: back ∧ (q.temp ≤ p.temp ∨ q.duty < p.duty)) ∨
        ∃ x, c.shed = some x ∧ ∀ h, c.hold = some h → x ≤ h
      let fails (i : Nat) : Prop :=
        (id = .bayMap ∧ ∃ a b : BayId, a.val = i ∧ clash a b) ∨
        (id = .classes ∧ ∃ c : ClassId, c.val = i ∧ u.classes[c].inrush12 < u.classes[c].steady12) ∨
        (id = .curves ∧ ∃ k : CurveId, k.val = i ∧ unordered u.curves[k]) ∨
        (id = .fans ∧ ∃ f : FanId, f.val = i ∧ u.fans[f].maxDuty < u.fans[f].minDuty)
      ((∀ i, first ≤ i → i < first + raws.length → ¬ fails i) → t.checkWrite id first raws = .ok u) ∧
      (∀ i, first ≤ i → i < first + raws.length → fails i → (∀ j, first ≤ j → j < i → ¬ fails j) →
        (id ≠ .bayMap → t.checkWrite id first raws = .bad i) ∧
        (∀ a b : BayId, id = .bayMap → a.val = i → clash a b → (∀ b' : BayId, clash a b' → b ≤ b') →
          t.checkWrite id first raws = .bad (max i b.val))))) ∧
  (∀ (s : State) (old : Tables) (first count : Nat),
    State.takeUp s .bayMap first count old =
      { s with
        smap := Vector.ofFn fun b =>
          if old.bayMap[b] ≠ none ∧ s.tables.bayMap[b] = none then { condition := 0, stretch := s.smap[b].stretch } else s.smap[b] } ∧
    State.takeUp s .classes first count old = s.consider ∧ State.takeUp s .limits first count old = s.consider ∧
    (∀ id ∈ [TableId.indications, .curves, .sensors, .zones, .linkSettings], State.takeUp s id first count old = s) ∧
    State.takeUp s .patterns first count old =
      { s with
        len := { s.len with
          written := Vector.ofFn fun p => s.len.written[p] || decide (first ≤ p.val ∧ p.val < first + count) } } ∧
    (∃ fans : Vector Fan 6, State.takeUp s .fans first count old = { s with fans := fans } ∧
      ∀ f : FanId,
        let n := 250000 / s.tables.fans[f].pwmFrequency
        (old.fans[f].pwmFrequency = s.tables.fans[f].pwmFrequency → fans[f] = s.fans[f]) ∧
        (old.fans[f].pwmFrequency ≠ s.tables.fans[f].pwmFrequency →
          (s.fans[f].duty = 0 → fans[f] = { s.fans[f] with divisor := n, compare := 0 }) ∧
          (s.fans[f].duty ≠ 0 → fans[f] =
            { s.fans[f] with
              divisor := n, compare := s.fans[f].duty * n / 1000, state := .starting, grace := some s.tb.now, lowCount := 0
              goodCount := 0, skipWindow := false }))) ∧
    (∃ u : State, State.takeUp s .baySettings first count old =
        (State.shedOwed (State.shedOwed (State.shedOwed u 0) 1) 2).consider ∧
      u = { s with bays := u.bays, psq := { s.psq with queue := u.psq.queue } } ∧
      (let moved (b : BayId) : Prop :=
        s.bays[b].state = .parked ∧ s.bays[b].shedParked = true ∧ old.baySettings[b].zone ≠ s.tables.baySettings[b].zone ∧
          s.zones[s.tables.baySettings[b].zone].hold = false
       u.psq.queue = joinedQueue s moved s.psq.queue ∧
       ∀ b : BayId,
        (moved b → u.bays[b] =
          { s.bays[b] with
            state := .queued, cls := s.tables.baySettings[b].cls, shedParked := false, backoffDeadline := none
            drainDeadline := none }) ∧
        (¬ moved b → s.bays[b].state.live = true → u.bays[b] = s.bays[b]) ∧
        (¬ moved b → s.bays[b].state.live = false → u.bays[b] = { s.bays[b] with cls := s.tables.baySettings[b].cls })))) ∧
  (∀ (s : State) (z : ZoneId),
    (s.psq.shed[z] ≠ .owed ∨ s.shedCandidate z = none → s.shedOwed z = s) ∧
    (∀ b : BayId, s.psq.shed[z] = .owed → s.shedCandidate z = some b → s.shedOwed z = Shed s z b))

/-- R27, R29, R54, R73, R75, R76, R115, R119, R140, R153, R171, R170, section 11.3: the entries of a table whose every field is in range and whose constraints hold pass
every check of a TABLE WRITE of the whole table, and the write leaves that table, and no other, as they give it. -/
def Obligations.WrittenTableReadsBack : Prop :=
  ∀ (t t' : Tables) (id : TableId), t'.wf = true →
    splitEntries id id.entries (t'.encodeAll id).flatten = some (t'.encodeAll id, []) ∧
    ∃ u : Tables, t.checkWrite id 0 (t'.encodeAll id) = .ok u ∧ u.encodeAll id = t'.encodeAll id ∧
      ∀ id' : TableId, id' ≠ id → u.encodeAll id' = t.encodeAll id'

/-- R5, R69, R93, R127, R174 to R176: a STATUS READ is answered DONE with the record of its selector, also while a save is in progress, and changes nothing of the part but
the reply queue (log 4: the counter of free values moves on with the records that hold one). The fields of every record stand where section 11.4 puts them, and a field whose value is
absent holds its marker. Model's choices: a deadline, and a grace, that has passed has 0 left (log 38), and an age of 255 s is sent as it is (log 27); the last grant time and the shed-since time
that are absent are free (logs 6 and 7). A BAYS range outside the part, or one too long for a reply, is
BAD_RANGE. Every record fits in the 240 bytes of a reply. The states have their codes of section 11.4, the attention kinds their places of R176, and the uptime is in whole seconds, wrapping
after 32 bits; before the start of the part it is 0, the model's choice (log 18). -/
def Obligations.StatusReadsReplyWithRecords : Prop :=
  ∀ (tag first count : Byte) (s : State), ServesReads s →
    exec (.statusReadSummary tag) s = .next (s.reply tag .done s.summaryRecord) ∧
    exec (.statusReadSources tag) s = .next (s.reply tag .done s.sourcesRecord) ∧
    exec (.statusReadFans tag) s = .next (s.reply tag .done s.fansRecord) ∧
    exec (.statusReadZones tag) s = .next (State.reply { s with freeCount := s.freeCount + 1 } tag .done s.zonesRecord) ∧
    exec (.statusReadLines tag) s = .next (s.reply tag .done s.linesRecord) ∧
    (1 ≤ count.toNat → first.toNat + count.toNat ≤ 24 → count.toNat ≤ 9 →
      exec (.statusReadBays tag first count) s = .next
        (State.reply { s with freeCount := s.freeCount + 1 } tag .done (s.baysRecord first.toNat count.toNat)) ∧
      (s.baysRecord first.toNat count.toNat).length = 2 + 24 * count.toNat) ∧
    (count.toNat = 0 ∨ 24 < first.toNat + count.toNat ∨ 9 < count.toNat →
      exec (.statusReadBays tag first count) s = .next (s.reply tag .badRange [])) ∧
    s.summaryRecord.length = 39 + s.psq.queue.length ∧ s.sourcesRecord.length = 152 ∧ s.fansRecord.length = 102 ∧
    s.zonesRecord.length = 51 ∧ s.linesRecord.length = 192 ∧
    (let r := s.summaryRecord
     let q := s.psq.queue.length
     fieldAt r 0 1 = s.liu.link.code ∧ fieldAt r 1 1 = (if s.liu.link = .fault ∧ s.liu.lostLatch = true then 1 else 0) ∧
     fieldAt r 2 1 = sent 8 255 (s.liu.position.map (·.val)) ∧ fieldAt r 3 2 = s.liu.errorCount % 65536 ∧ fieldAt r 5 1 = s.liu.port.code ∧
     fieldAt r 6 2 = s.mru.attention.toNat ∧ fieldAt r 8 2 = s.psq.committed12 % 65536 ∧ fieldAt r 10 2 = s.psq.committed5 % 65536 ∧
     (∀ g : GroupId, fieldAt r (12 + 2 * g.val) 2 = s.psq.branch[g] % 65536) ∧ fieldAt r 24 1 = s.psq.rampingCount % 256 ∧
     fieldAt r 25 1 = (if s.psq.quiescePending then 1 else 0) ∧ fieldAt r 26 1 = q % 256 ∧
     (∀ (i : Nat) (h : i < q), fieldAt r (27 + i) 1 = (s.psq.queue[i]).bay.val) ∧
     (∀ z : ZoneId, fieldAt r (27 + q + z.val) 1 = (if s.zones[z].hold then 1 else 0) + if s.zones[z].shed then 2 else 0) ∧
     (∀ i : Fin 11, (fieldAt r (30 + q) 2).testBit i.val = s.cmp.defaulted[i] ∧ (fieldAt r (32 + q) 2).testBit i.val = s.cmp.clamped[i]) ∧
     fieldAt r (34 + q) 1 = (if s.mru.saveInProgress then 1 else 0) ∧ fieldAt r (35 + q) 4 = s.uptime) ∧
    (∀ i : Nat, 1 ≤ count.toNat → first.toNat + count.toNat ≤ 24 → i < count.toNat → ∀ b : BayId, b.val = first.toNat + i →
      let r := s.baysRecord first.toNat count.toNat
      let o := 2 + 24 * i
      let x := s.bays[b]
      fieldAt r 0 1 = first.toNat ∧ fieldAt r 1 1 = count.toNat ∧ fieldAt r o 1 = b.val ∧ fieldAt r (o + 1) 1 = x.state.code ∧
      fieldAt r (o + 2) 1 = x.cls.val ∧ fieldAt r (o + 3) 2 = x.charge12 % 65536 ∧ fieldAt r (o + 5) 2 = x.charge5 % 65536 ∧
      fieldAt r (o + 7) 2 = x.steady12 % 65536 ∧ fieldAt r (o + 9) 1 = x.retryCount % 256 ∧
      (∀ k : Fin 8, (fieldAt r (o + 10) 1).testBit k.val =
        [x.shedParked, x.surprise, x.identify, x.marks[0], x.marks[1], x.marks[2], s.inputs[b].pg, s.inputs[b].flt][k]) ∧
      fieldAt r (o + 11) 1 = (if x.lastGrant = none then 0 else 1) ∧
      (∀ g, x.lastGrant = some g → fieldAt r (o + 12) 4 = g % 2 ^ 32) ∧
      fieldAt r (o + 16) 4 = sent 32 0xFFFFFFFF (x.rampDeadline.map (· - s.tb.now)) ∧
      (BaySound x → ∀ d ∈ [x.pgDeadline, x.backoffDeadline, x.drainDeadline], d ≠ none →
        fieldAt r (o + 20) 4 = sent 32 0xFFFFFFFF (d.map (· - s.tb.now))) ∧
      (x.pgDeadline = none → x.backoffDeadline = none → x.drainDeadline = none → fieldAt r (o + 20) 4 = 0xFFFFFFFF)) ∧
    (∀ k : SensorId,
      let r := s.sourcesRecord
      let o := 8 * k.val
      let c := s.tables.sensors[k]
      fieldAt r o 1 = s.sensors[k].state.code ∧ fieldAt r (o + 1) 2 = sentTemperature s.sensors[k].held ∧
      fieldAt r (o + 3) 2 = sentTemperature
        (if s.sensors[k].state = .ok then s.sensors[k].held.map fun h => max (-80) (min 250 (h + c.offset)) else none) ∧
      fieldAt r (o + 5) 1 = (c.offset % 256).toNat ∧ fieldAt r (o + 6) 1 = c.curve.val ∧
      fieldAt r (o + 7) 1 = (if c.mask[0] then 1 else 0) + (if c.mask[1] then 2 else 0) + if c.mask[2] then 4 else 0) ∧
    (∀ b : BayId,
      let r := s.sourcesRecord
      let o := 32 + 5 * b.val
      let x := s.drives[b]
      fieldAt r o 1 = x.state.code ∧ fieldAt r (o + 1) 1 = sent 8 255 x.value ∧
      fieldAt r (o + 2) 1 = sent 8 255 (if x.state = .valid then x.reportTime.map fun t => (s.tb.now - t) / 1000 else none) ∧
      fieldAt r (o + 3) 1 = s.tables.baySettings[b].zone.val ∧ fieldAt r (o + 4) 1 = (if x.state = .stale then 1 else 0)) ∧
    (∀ f : FanId,
      let r := s.fansRecord
      let o := 17 * f.val
      let x := s.fans[f]
      fieldAt r o 1 = x.state.code ∧ fieldAt r (o + 1) 1 = s.tables.fans[f].zone.val ∧ fieldAt r (o + 2) 2 = x.duty % 65536 ∧
      fieldAt r (o + 4) 4 = x.divisor % 2 ^ 32 ∧ fieldAt r (o + 8) 4 = x.compare % 2 ^ 32 ∧
      fieldAt r (o + 12) 2 = sent 16 0xFFFF x.lastRpm ∧ fieldAt r (o + 14) 1 = x.lowCount % 256 ∧
      fieldAt r (o + 15) 1 = x.goodCount % 256 ∧
      fieldAt r (o + 16) 1 = sent 8 255
        (if x.state = .starting then x.grace.map fun g => (g + 5000 - s.tb.now + 999) / 1000 else none)) ∧
    (∀ z : ZoneId,
      let r := s.zonesRecord
      let o := 17 * z.val
      let x := s.zones[z]
      fieldAt r o 2 = x.held % 65536 ∧ fieldAt r (o + 2) 2 = x.output % 65536 ∧ fieldAt r (o + 4) 2 = sent 16 0xFFFF x.raw ∧
      fieldAt r (o + 6) 2 = sent 16 0xFFFF x.target ∧ fieldAt r (o + 8) 2 = sent 16 0xFFFF x.weightFloor ∧
      fieldAt r (o + 10) 1 =
        (if x.floors.stale then 1 else 0) + (if x.floors.sensorFail then 2 else 0) + (if x.floors.linkLost then 4 else 0) ∧
      fieldAt r (o + 11) 1 = x.failedFans % 256 ∧ fieldAt r (o + 12) 1 = (if x.hold then 1 else 0) + (if x.shed then 2 else 0) ∧
      ∀ t, x.shedSince = some t → fieldAt r (o + 13) 4 = s.uptimeAt t) ∧
    (∀ b : BayId,
      let r := s.linesRecord
      let o := 8 * b.val
      (∀ id : IndicationId, (fieldAt r o 4).testBit id.val = s.len.active[b][id]) ∧
      (∀ x : Nat × Line, x = (o + 4, s.len.lineA[b]) ∨ x = (o + 6, s.len.lineB[b]) →
        fieldAt r x.1 1 = (if x.2.manual = none then 0 else 1) + (if x.2.driven then 2 else 0) ∧
        fieldAt r (x.1 + 1) 1 = sent 8 255 (x.2.shown.map (·.val)))) ∧
    s.uptime = s.uptimeAt s.tb.now ∧
    (∀ t : Nat, s.uptimeAt t = match s.tb.startTime with | some start => (t - start) / 1000 % 2 ^ 32 | none => 0) ∧
    [LinkState.disabled, .listen, .training, .aligned, .silent, .lost, .fault].map LinkState.code = [0, 1, 2, 3, 4, 5, 6] ∧
    [PortState.off, .probing, .aligned, .absent].map PortState.code = [0, 1, 2, 3] ∧
    [SensorState.pending, .ok, .failed].map SensorState.code = [0, 1, 2] ∧
    [DriveState.absent, .valid, .stale].map DriveState.code = [0, 1, 2] ∧
    [FanState.stopped, .starting, .running, .failed].map FanState.code = [0, 1, 2, 3] ∧
    [AttentionKind.bayState, .powerFault, .lockout, .surpriseRemoval, .fanFailed, .sensorFailed, .zoneHold, .zoneShed, .linkWarning,
      .returnMissing, .configDefault, .configClamped, .saveDone, .saveFailed, .restarted].map AttentionKind.place = List.range 15

/-- R177: an ATTENTION CLEAR makes the named kinds absent, keeps the others, and is answered DONE; a set that names the undefined kind is BAD_VALUE and clears nothing. -/
def Obligations.AttentionClearRemovesNamedKinds : Prop :=
  ∀ (tag : Byte) (kinds : BitVec 16) (s : State), Serves s →
    (kinds.getLsbD 15 = true → exec (.attentionClear tag kinds) s = .next (s.reply tag .badValue [])) ∧
    (kinds.getLsbD 15 = false →
      ∃ u : State, exec (.attentionClear tag kinds) s = .next (u.reply tag .done []) ∧
        u = { s with mru := { s.mru with attention := u.mru.attention } } ∧
        ∀ k : AttentionKind, u.has k = (s.has k && !kinds.getLsbD k.place))

/-- R167, R168, R180, R196: while the MRU holds a RESTART every request is answered BUSY and does nothing else, and while a save is in progress every request is
but the reads; otherwise a request of an undefined kind is answered UNKNOWN_KIND. -/
def Obligations.BusyAndUnknownKindAnswers : Prop :=
  ∀ (tag a b c d : Byte) (bytes : List Byte) (pairs : List (Byte × Byte)) (set16 : BitVec 16) (set32 : BitVec 32) (s : State),
    s.phase = .running →
    (s.mru.state ≠ .idle ∨ s.mru.saveInProgress = true →
      ∀ i ∈ [Instr.tableWrite tag a b c bytes, .powerOn tag a, .powerOff tag a, .clearLockout tag a, .identifyOn tag a,
        .identifyOff tag a, .markSet tag a b, .markClear tag a b, .temperatureReport false tag pairs, .attentionClear tag set16,
        .lineSetManual tag set32 a b, .lineSetEngine tag set32 a b, .restartImmediate tag, .restartQuiesced tag,
        .configSave tag, .unknownKind tag d], exec i s = .next (s.reply tag .busy [])) ∧
    (s.mru.state ≠ .idle →
      ∀ i ∈ [Instr.tableRead tag a b c, .statusReadSummary tag, .statusReadBays tag a b, .statusReadSources tag,
        .statusReadFans tag, .statusReadZones tag, .statusReadLines tag], exec i s = .next (s.reply tag .busy [])) ∧
    (Serves s → exec (.unknownKind tag d) s = .next (s.reply tag .unknownKind []))

/-- R23, R126, R173, R197: a bay number above 23 is BAD_RANGE in every bay action. A LINE SET that names a bay above B23 is BAD_RANGE whatever else is wrong with it, and
one with an undefined lines byte or level is BAD_VALUE in both modes: with an empty bay set that is the model's choice (log 37), since R126 has DONE for the one and BAD_VALUE for the other.
The reply is all that happens. -/
def Obligations.FaultyActionsChangeNothing : Prop :=
  ∀ (tag n m lines level : Byte) (baySet : BitVec 32) (s : State), Serves s →
    (24 ≤ n.toNat →
      ∀ c ∈ [Instr.powerOn tag n, .powerOff tag n, .clearLockout tag n, .identifyOn tag n, .identifyOff tag n, .markSet tag n m,
        .markClear tag n m], exec c s = .next (s.reply tag .badRange [])) ∧
    (16777216 ≤ baySet.toNat →
      exec (.lineSetManual tag baySet lines level) s = .next (s.reply tag .badRange []) ∧
      exec (.lineSetEngine tag baySet lines level) s = .next (s.reply tag .badRange [])) ∧
    (baySet.toNat < 16777216 → lines.toNat = 0 ∨ 4 ≤ lines.toNat ∨ 2 ≤ level.toNat →
      exec (.lineSetManual tag baySet lines level) s = .next (s.reply tag .badValue []) ∧
      exec (.lineSetEngine tag baySet lines level) s = .next (s.reply tag .badValue []))

/-- R49, R178, R191: the two forms of RESTART, and the quiesce limit. IMMEDIATE makes the reply ready and waits for its end; QUIESCED sets the flag and waits while a bay
is RAMPING or REMOVING, for 60 s at most, and then does the same. A reply that cannot be queued is discarded, and the controller reset follows at once, DEDUCED (log 12) in the same
row. Model's choice (log 9): the quiesce limit's row given before its 60 s changes nothing. A bay transition ends with its consideration, where it is one of R44; and, where it leaves a
QUIESCING part with the flag set and no bay RAMPING or REMOVING, with the reply. -/
def Obligations.RestartWaitsForItsReply : Prop :=
  (∀ (s : State) (considers : Bool),
    let u : State := if considers then s.consider else s
    (∀ tag taken, u.mru.state = .quiescing tag taken → u.psq.quiescePending = true →
      (∀ b : BayId, u.bays[b].state ≠ .ramping ∧ u.bays[b].state ≠ .removing) → s.afterBay considers = u.finishRestart tag) ∧
    ((∀ tag taken, u.mru.state ≠ .quiescing tag taken) ∨ u.psq.quiescePending = false ∨
      (∃ b : BayId, u.bays[b].state = .ramping ∨ u.bays[b].state = .removing) → s.afterBay considers = u)) ∧
  ∀ (tag : Byte) (s : State), s.phase = .running →
    (Serves s → exec (.restartImmediate tag) s = .next (s.finishRestart tag)) ∧
    (Serves s → (∃ b : BayId, s.bays[b].state = .ramping ∨ s.bays[b].state = .removing) →
      exec (.restartQuiesced tag) s = .next
        { s with psq := { s.psq with quiescePending := true }, mru := { s.mru with state := .quiescing tag s.tb.now } }) ∧
    (Serves s → (∀ b : BayId, s.bays[b].state ≠ .ramping ∧ s.bays[b].state ≠ .removing) →
      exec (.restartQuiesced tag) s = .next (State.finishRestart
        { s with psq := { s.psq with quiescePending := true }, mru := { s.mru with state := .quiescing tag s.tb.now } } tag)) ∧
    (∀ t0, s.mru.state = .quiescing tag t0 →
      (t0 + 60000 ≤ s.tb.now → exec .quiesceLimit s = .next (s.finishRestart tag)) ∧
      (s.tb.now < t0 + 60000 → exec .quiesceLimit s = .next s)) ∧
    (s.liu.link = .aligned ∨ s.liu.link = .silent → s.liu.replyQueue.length < 4 →
      ∃ l : Liu, s.finishRestart tag = { s with mru := { s.mru with state := .sending tag }, liu := l } ∧
        l = s.liu.pushReply
          { source := positionByte s.liu.position, tag := tag, status := 0, payload := [], restart := true }) ∧
    ((s.liu.link ≠ .aligned ∧ s.liu.link ≠ .silent) ∨ 4 ≤ s.liu.replyQueue.length →
      s.finishRestart tag = s.controllerReset false)

/-- R180, R182, R184, R192, R193: a CONFIG SAVE sets the flag and starts the writes, of which the first erases the marker and the last writes it; each acknowledge of the memory, in the 10 ms of its
write's wait, puts that write into the memory and sends the next; the last raises SAVE_DONE; a failure ends the save with SAVE_FAILED, the memory changed at most where the failing write
lies. On the bus: in the wait of a load the CMP sends the device address, and at the tick at which the memory acknowledges, early or late in the wait, it reads, acknowledging every byte but the last; the
reading stops at a bad marker, version or length. A save sends its erase, of which only the address where the memory does not acknowledge, and after each write the address. Nothing passes on a bus that is
held low, so no write is sent there. PRESUMED (log 30): the write direction of a wait's address. DEDUCED (log 30): one read transfer, an item read whole, the blocks judged behind the check. Model's
choices (log 40): a transfer takes no time, and the erase is sent at the first tick after the save began at which the bus is free. DEDUCED (log 29): a write lands at its acknowledge, and a failed marker erase, or a
failure before the erase is sent, leaves the memory as it was. An acknowledge that cannot arise changes nothing (log 9, model's choice). Model's choices: which bytes of another failing write land is a free
value (log 5), whose counter moves on (log 4). -/
def Obligations.SaveWritesTheImageInOrder : Prop :=
  (∀ (tag : Byte) (s : State), Serves s →
    exec (.configSave tag) s = .next (State.reply
      { s with
        mru := { s.mru with saveInProgress := true }
        cmp := { s.cmp with state := .saving (saveWrites s.tables), waitStart := none } } tag .done [])) ∧
  (∀ t : Tables, ∃ body : List SaveWrite,
    saveWrites t = { step := .erase, offset := 0, bytes := [0x00, 0x00] } ::
      (body ++ [{ step := .marker, offset := 0, bytes := [0xC3, 0x5A] }]) ∧
    (∀ w ∈ body, w.step = .body ∧ 2 ≤ w.offset ∧ 1 ≤ w.bytes.length ∧ w.offset % 32 + w.bytes.length ≤ 32) ∧
    (body.map (·.bytes)).flatten = (imageBytes t).drop 2) ∧
  (∀ (m : Memory) (offset n : Nat) (bytes : List Byte),
    let head : List BusItem := [.start, .sent 0xAC, .sent (BitVec.ofNat 8 (offset / 256)), .sent (BitVec.ofNat 8 offset)]
    writeTransfer offset bytes = head ++ bytes.map .sent ∧
    readTransfer m offset (n + 1) = head ++ [.start, .sent 0xAD] ++
      (List.range n).map (fun i => .read (Memory.read m (offset + i)) true) ++ [.read (Memory.read m (offset + n)) false]) ∧
  (∀ m : Memory,
    let length := (Memory.read m 3).toNat * 256 + (Memory.read m 4).toNat
    let marked : Prop := Memory.read m 0 = 0xC3 ∧ Memory.read m 1 = 0x5A
    (¬ marked → imageReadCount m = 2) ∧
    (marked → Memory.read m 2 ≠ 1 → imageReadCount m = 3) ∧
    (marked → Memory.read m 2 = 1 → 2041 < length → imageReadCount m = 5) ∧
    (marked → Memory.read m 2 = 1 → length ≤ 2041 → imageReadCount m = 7 + length)) ∧
  (∀ (w w' : SaveWrite) (rest : List SaveWrite) (c : Cmp) (start now : Nat),
    (Passed c.heldLow 0 now ∨ c.state = .idle ∨ (c.state = .loading ∧ (c.waitStart = none ∨ c.readStart ≠ none)) ∨
      (c.waitStart = some start ∧ start + 10 < now) → c.tickTransfers now = []) ∧
    (c.waitStart = some start → now ≤ start + 10 → c.state = .loading → c.readStart = none →
      (Acknowledges c now → c.tickTransfers now = [[.start, .sent 0xAC], readTransfer c.mem 0 (imageReadCount c.mem)]) ∧
      (¬ Acknowledges c now → ¬ Passed c.heldLow 0 now → c.tickTransfers now = [[.start, .sent 0xAC]])) ∧
    (c.state = .saving (w :: rest) →
      (c.waitStart = none → Acknowledges c now → c.tickTransfers now = [writeTransfer w.offset w.bytes]) ∧
      (c.waitStart = none → ¬ Acknowledges c now → ¬ Passed c.heldLow 0 now → c.tickTransfers now = [[.start, .sent 0xAC]]) ∧
      (c.waitStart = some start → now ≤ start + 10 → ¬ Passed c.heldLow 0 now → c.tickTransfers now = [[.start, .sent 0xAC]])) ∧
    (c.state = .saving (w :: w' :: rest) → c.acknowledgeTransfers = [writeTransfer w'.offset w'.bytes]) ∧
    (c.state = .saving [w] → c.acknowledgeTransfers = [])) ∧
  (∀ (w w' : SaveWrite) (rest : List SaveWrite) (s : State) (start : Nat),
    (s.cmp.waitStart = none ∨ (s.cmp.waitStart = some start ∧ start + 10 < s.tb.now) ∨ ¬ Acknowledges s.cmp s.tb.now →
      exec .saveWriteAcknowledged s = .next s) ∧
    (s.cmp.waitStart = some start → s.tb.now ≤ start + 10 → Acknowledges s.cmp s.tb.now → s.cmp.state = .saving (w :: w' :: rest) →
      exec .saveWriteAcknowledged s = .next
        { s with
          cmp := { s.cmp with
            state := .saving (w' :: rest), mem := Memory.writeBytes s.cmp.mem w.offset w.bytes, waitStart := some s.tb.now } }) ∧
    (s.cmp.waitStart = some start → s.tb.now ≤ start + 10 → Acknowledges s.cmp s.tb.now → s.cmp.state = .saving [w] →
      exec .saveWriteAcknowledged s = .next
        { s with
          cmp := { s.cmp with state := .idle, mem := Memory.writeBytes s.cmp.mem w.offset w.bytes, waitStart := none }
          mru := { s.mru with saveInProgress := false, attention := attentionRaise s.mru.attention .saveDone } }) ∧
    (s.cmp.state = .saving (w :: rest) →
      ∃ mem : Memory, exec .saveFailed s = .next
        { s with
          cmp := { s.cmp with state := .idle, mem := mem, waitStart := none }
          mru := { s.mru with saveInProgress := false, attention := attentionRaise s.mru.attention .saveFailed }
          freeCount := s.freeCount + 1 } ∧
        (w.step = .erase ∨ s.cmp.waitStart = none → mem = s.cmp.mem) ∧
        ∀ a : Nat, a < w.offset ∨ w.offset + w.bytes.length ≤ a → Memory.read mem a = Memory.read s.cmp.mem a))

/-! ### Encodings (chapter 11) -/

/-- R130 to R133, R194 to R196: a receiver outside a frame finds exactly the frame sent, for every well-formed frame; a frame whose check is not the one of its header and payload is
bad, and so, at its length byte, is one whose header is malformed; data words outside a frame are ignored, as in the hunt that follows it; a start word or a training word in a frame makes the one begun bad; a
training word is found with its kind and hop; and the frames that carry a sweep, a request, a return or a reply are read as the commands of those contents. -/
def Obligations.ReceiverFindsEverySentFrame : Prop :=
  (∀ f : Frame, f.wf = true → Receiver.run .outside f.words = (.outside, [.frame f])) ∧
  (∀ (f : Frame) (bytes : List Byte), f.wf = true → Receiver.run (.inside bytes) f.words = (.outside, [.bad, .frame f])) ∧
  (∀ (f : Frame) (check : List Byte), f.wf = true → check.length = 2 →
    check ≠ crcBytes ([f.kind.code, u8 f.payload.length] ++ f.payload) →
    Receiver.run .outside (startWord :: ([f.kind.code, u8 f.payload.length] ++ f.payload ++ check).map dataWord) = (.outside, [.bad])) ∧
  (∀ k n : Byte,
    5 ≤ k.toNat ∨ (k = 0 ∧ n ≠ 0) ∨ (k = 1 ∧ n ≠ 129) ∨ (k = 2 ∧ n ≠ 131) ∨ ((k = 3 ∨ k = 4) ∧ (n.toNat < 3 ∨ 243 < n.toNat)) →
      Receiver.run .outside [startWord, dataWord k, dataWord n] = (.outside, [.bad])) ∧
  (∀ bytes : List Byte, Receiver.run .outside (bytes.map dataWord) = (.outside, [])) ∧
  (∀ (bytes : List Byte) (k : TrainKind) (h : BitVec 4),
    Receiver.run (.inside bytes) [trainingWordOf k h] = (.outside, [.bad, .training k h])) ∧
  (∀ (k : TrainKind) (h : BitVec 4), Receiver.run .outside [trainingWordOf k h] = (.outside, [.training k h])) ∧
  (∀ (n : Byte) (slots : Slots),
    (DownFrame.sweep n slots).frame.wf = true ∧
    upstreamCommand (.frame (DownFrame.sweep n slots).frame) = .upstreamSweep n slots) ∧
  (∀ (t g k : Byte) (p : List Byte), p.length ≤ 240 →
    (DownFrame.request t g k p).frame.wf = true ∧
    upstreamCommand (.frame (DownFrame.request t g k p).frame) = .upstreamRequest t g k p) ∧
  (∀ (n o : Byte) (a : Bool) (slots : Slots),
    (ReturnFrame.frame ⟨n, a, o, slots⟩).wf = true ∧
    downstreamCommand (.frame (ReturnFrame.frame ⟨n, a, o, slots⟩)) = .downstreamReturn n a o slots) ∧
  (∀ (s g st : Byte) (p : List Byte) (r : Bool), p.length ≤ 240 →
    (ReplyFrame.frame ⟨s, g, st, p, r⟩).wf = true ∧
    downstreamCommand (.frame (ReplyFrame.frame ⟨s, g, st, p, r⟩)) = .downstreamReply s g st p)

/-- R148, R167, R169 to R174, R177, R178, R180, R196, R197: a REQUEST frame to the part's own position does what the row of its request does, on the state u after the frame has been
taken, with every payload byte in its place: a report with any count of pairs it states rightly, and a kind that is not defined, which is the row UNKNOWN_KIND. A report to ALL does what
its row does, and is forwarded through an ALIGNED port. A faulty payload is answered BAD_VALUE, or BAD_RANGE where it names a bay that is not there, and does nothing else; a faulty report
to ALL is not applied and not answered, and is forwarded through an ALIGNED port like any other (R148). Model's choices: the rows of the requests stand for requests handed to the MRU
(log 11), and a LINE SET with an empty bay set and an undefined byte is BAD_VALUE (log 37). -/
def Obligations.RequestFramesCarryTheRequests : Prop :=
  ∀ (tag a b c m lines level : Byte) (es : List Byte) (pairs : List (Byte × Byte)) (set32 : BitVec 32) (set16 : BitVec 16) (s u t : State)
    (p : Fin 4) (kind : Byte) (payload : List Byte) (i : Instr),
    s.liu.link = .aligned ∨ s.liu.link = .silent → s.liu.position = some p → u = s.acceptFrame →
    let report : List Byte := u8 pairs.length :: pairs.flatMap fun x => [x.1, x.2]
    let forwarded (pl : List Byte) (x : State) : State :=
      if u.liu.port = .aligned then { x with liu := x.liu.forward (.request 0xFF tag 0x21 pl) } else x
    (exec i u = .next t → pairs.length ≤ 255 →
      (kind, payload, i) ∈
        [((0x10 : Byte), [a, b, c], Instr.tableRead tag a b c), (0x11, a :: b :: c :: es, .tableWrite tag a b c es),
         (0x20, [a, 1, m], .powerOn tag a), (0x20, [a, 2, m], .powerOff tag a), (0x20, [a, 3, m], .clearLockout tag a),
         (0x20, [a, 4, m], .identifyOn tag a), (0x20, [a, 5, m], .identifyOff tag a), (0x20, [a, 6, m], .markSet tag a m),
         (0x20, [a, 7, m], .markClear tag a m), (0x21, report, .temperatureReport false tag pairs),
         (0x30, [0], .statusReadSummary tag), (0x30, [1, a, b], .statusReadBays tag a b), (0x30, [2], .statusReadSources tag),
         (0x30, [3], .statusReadFans tag), (0x30, [4], .statusReadZones tag), (0x30, [5], .statusReadLines tag),
         (0x31, [set16.extractLsb' 8 8, set16.extractLsb' 0 8], .attentionClear tag set16),
         (0x32, [set32.extractLsb' 24 8, set32.extractLsb' 16 8, set32.extractLsb' 8 8, set32.extractLsb' 0 8, lines, 1, level],
           .lineSetManual tag set32 lines level),
         (0x32, [set32.extractLsb' 24 8, set32.extractLsb' 16 8, set32.extractLsb' 8 8, set32.extractLsb' 0 8, lines, 0, level],
           .lineSetEngine tag set32 lines level),
         (0x40, [0], .restartImmediate tag), (0x40, [1], .restartQuiesced tag), (0x41, [], .configSave tag)] ∨
      (kind ∉ [(0x10 : Byte), 0x11, 0x20, 0x21, 0x30, 0x31, 0x32, 0x40, 0x41] ∧ i = .unknownKind tag kind) →
      exec (.upstreamRequest (u8 p.val) tag kind payload) s = .next t.resumeDown) ∧
    (exec (.temperatureReport true tag pairs) u = .next t → pairs.length ≤ 255 →
      exec (.upstreamRequest 0xFF tag 0x21 report) s = .next (forwarded report t).resumeDown) ∧
    (BadPayload 0x21 payload → exec (.upstreamRequest 0xFF tag 0x21 payload) s = .next (forwarded payload u).resumeDown) ∧
    (Serves u →
      (BadPayload kind payload →
        exec (.upstreamRequest (u8 p.val) tag kind payload) s = .next (u.reply tag .badValue []).resumeDown) ∧
      (BadRangePayload kind payload →
        exec (.upstreamRequest (u8 p.val) tag kind payload) s = .next (u.reply tag .badRange []).resumeDown))

/-- R183 to R185, R192, R198: the image that a whole save of in-range tables leaves in the memory loads back as those tables, with no table at its defaults. -/
def Obligations.SavedImageLoadsBack : Prop :=
  ∀ (t : Tables) (m : Memory), t.wf = true → Memory.wf m = true →
    loadTables false ((saveWrites t).foldl (fun mem w => Memory.writeBytes mem w.offset w.bytes) m) =
      (t, Vector.replicate 11 false)

/-! ### What every step keeps -/

/-- R30, R31, R35 to R38, R40, R186: from every sound state a step keeps the tables in range, the bay records true to their states, the sums equal to the recorded
charges and within their limits, and the queue holding exactly the QUEUED bays in priority order. -/
def Obligations.StepKeepsPowerSound : Prop :=
  ∀ s t : State, Sound s → step s = .next t → PowerSound t ∧ QueueSound t

/-- R57, R60, R63, R84 to R86, R98, R100, R113, R124: from every sound state a step keeps the sources, the zones, the fans and the lines sound; a zone in SHED is in HOLD. -/
def Obligations.StepKeepsCoolingSound : Prop :=
  ∀ s t : State, Sound s → step s = .next t → SourcesSound t ∧ CoolingSound t ∧ LightsSound t

/-- R49, R134, R141, R144, R149, R150, R158, R178, R180 to R182, R193: from every sound state a step keeps the LIU within its bounds and the phases, the MRU and the CMP in
agreement; a RESTART in SENDING always has its one reply on the way, and one in QUIESCING a bay to wait for. From every state whose memory is in canonical form,
sound or not, a step keeps that form. -/
def Obligations.StepKeepsControlSound : Prop :=
  ∀ s t : State, step s = .next t →
    (Sound s → LinkSound t.liu ∧ ControlSound t ∧ QuiesceSound t) ∧ (MemorySound s → MemorySound t)

/-- Tier 1: the state after power-on reset is sound, so that the statements above speak of every state a run can reach. -/
def Obligations.ResetIsSound : Prop := Sound State.reset
end

