-- ==== Sys2Proof/Laws/State.lean ====
section
/-! SUPPORT. Field lemmas: what each named update of State leaves in each field, true by `rfl` and known to `simp`, so that no later proof unfolds an update; and the
vectors of State read at an index of their own range. -/

namespace Sys2Proof.Machine

/-! ### Vectors read at an index of their range -/

theorem get_set_self {α : Type} {n : Nat} (v : Vector α n) (i : Fin n) (x : α) : (v.set i x)[i] = x := by simp

theorem get_set_of_ne {α : Type} {n : Nat} (v : Vector α n) {i j : Fin n} (x : α) (h : j ≠ i) : (v.set i x)[j] = v[j] := by
  have : i.val ≠ j.val := fun e => h (Fin.ext e.symm)
  simp [this]

theorem get_set {α : Type} {n : Nat} (v : Vector α n) (i j : Fin n) (x : α) : (v.set i x)[j] = if j = i then x else v[j] := by
  split
  · next h => subst h; exact get_set_self v j x
  · next h => exact get_set_of_ne v x h

theorem get_ofFn {α : Type} {n : Nat} (f : Fin n → α) (i : Fin n) : (Vector.ofFn f)[i] = f i := by simp

theorem get_replicate {α : Type} {n : Nat} (x : α) (i : Fin n) : (Vector.replicate n x)[i] = x := by simp

theorem vector_ext {α : Type} {n : Nat} {v w : Vector α n} (h : ∀ i : Fin n, v[i] = w[i]) : v = w := by
  apply Vector.ext
  intro i hi
  exact h ⟨i, hi⟩

theorem set_get_self {α : Type} {n : Nat} (v : Vector α n) (i : Fin n) : v.set i v[i] = v := by
  apply vector_ext
  intro j
  rw [get_set]
  split
  · next h => rw [h]
  · rfl

theorem set_set {α : Type} {n : Nat} (v : Vector α n) (i : Fin n) (x y : α) : (v.set i x).set i y = v.set i y := by
  apply vector_ext
  intro j
  simp only [get_set]
  split <;> rfl

/-! ### Fields after an update -/

variable (s : State)


@[simp] theorem State.setBay_phase (b : BayId) (r : BayRecord) : (s.setBay b r).phase = s.phase := rfl
@[simp] theorem State.setBay_rstn (b : BayId) (r : BayRecord) : (s.setBay b r).rstn = s.rstn := rfl
@[simp] theorem State.setBay_tb (b : BayId) (r : BayRecord) : (s.setBay b r).tb = s.tb := rfl
@[simp] theorem State.setBay_tables (b : BayId) (r : BayRecord) : (s.setBay b r).tables = s.tables := rfl
@[simp] theorem State.setBay_bays (b : BayId) (r : BayRecord) : (s.setBay b r).bays = s.bays.set b r := rfl
@[simp] theorem State.setBay_inputs (b : BayId) (r : BayRecord) : (s.setBay b r).inputs = s.inputs := rfl
@[simp] theorem State.setBay_psq (b : BayId) (r : BayRecord) : (s.setBay b r).psq = s.psq := rfl
@[simp] theorem State.setBay_sensors (b : BayId) (r : BayRecord) : (s.setBay b r).sensors = s.sensors := rfl
@[simp] theorem State.setBay_therm (b : BayId) (r : BayRecord) : (s.setBay b r).therm = s.therm := rfl
@[simp] theorem State.setBay_converted (b : BayId) (r : BayRecord) : (s.setBay b r).converted = s.converted := rfl
@[simp] theorem State.setBay_drives (b : BayId) (r : BayRecord) : (s.setBay b r).drives = s.drives := rfl
@[simp] theorem State.setBay_zones (b : BayId) (r : BayRecord) : (s.setBay b r).zones = s.zones := rfl
@[simp] theorem State.setBay_fans (b : BayId) (r : BayRecord) : (s.setBay b r).fans = s.fans := rfl
@[simp] theorem State.setBay_smap (b : BayId) (r : BayRecord) : (s.setBay b r).smap = s.smap := rfl
@[simp] theorem State.setBay_len (b : BayId) (r : BayRecord) : (s.setBay b r).len = s.len := rfl
@[simp] theorem State.setBay_liu (b : BayId) (r : BayRecord) : (s.setBay b r).liu = s.liu := rfl
@[simp] theorem State.setBay_mru (b : BayId) (r : BayRecord) : (s.setBay b r).mru = s.mru := rfl
@[simp] theorem State.setBay_cmp (b : BayId) (r : BayRecord) : (s.setBay b r).cmp = s.cmp := rfl
@[simp] theorem State.setBay_freeCount (b : BayId) (r : BayRecord) : (s.setBay b r).freeCount = s.freeCount := rfl
@[simp] theorem State.setBay_pending (b : BayId) (r : BayRecord) : (s.setBay b r).pending = s.pending := rfl

@[simp] theorem State.setInput_phase (b : BayId) (i : BayInput) : (s.setInput b i).phase = s.phase := rfl
@[simp] theorem State.setInput_rstn (b : BayId) (i : BayInput) : (s.setInput b i).rstn = s.rstn := rfl
@[simp] theorem State.setInput_tb (b : BayId) (i : BayInput) : (s.setInput b i).tb = s.tb := rfl
@[simp] theorem State.setInput_tables (b : BayId) (i : BayInput) : (s.setInput b i).tables = s.tables := rfl
@[simp] theorem State.setInput_bays (b : BayId) (i : BayInput) : (s.setInput b i).bays = s.bays := rfl
@[simp] theorem State.setInput_inputs (b : BayId) (i : BayInput) : (s.setInput b i).inputs = s.inputs.set b i := rfl
@[simp] theorem State.setInput_psq (b : BayId) (i : BayInput) : (s.setInput b i).psq = s.psq := rfl
@[simp] theorem State.setInput_sensors (b : BayId) (i : BayInput) : (s.setInput b i).sensors = s.sensors := rfl
@[simp] theorem State.setInput_therm (b : BayId) (i : BayInput) : (s.setInput b i).therm = s.therm := rfl
@[simp] theorem State.setInput_converted (b : BayId) (i : BayInput) : (s.setInput b i).converted = s.converted := rfl
@[simp] theorem State.setInput_drives (b : BayId) (i : BayInput) : (s.setInput b i).drives = s.drives := rfl
@[simp] theorem State.setInput_zones (b : BayId) (i : BayInput) : (s.setInput b i).zones = s.zones := rfl
@[simp] theorem State.setInput_fans (b : BayId) (i : BayInput) : (s.setInput b i).fans = s.fans := rfl
@[simp] theorem State.setInput_smap (b : BayId) (i : BayInput) : (s.setInput b i).smap = s.smap := rfl
@[simp] theorem State.setInput_len (b : BayId) (i : BayInput) : (s.setInput b i).len = s.len := rfl
@[simp] theorem State.setInput_liu (b : BayId) (i : BayInput) : (s.setInput b i).liu = s.liu := rfl
@[simp] theorem State.setInput_mru (b : BayId) (i : BayInput) : (s.setInput b i).mru = s.mru := rfl
@[simp] theorem State.setInput_cmp (b : BayId) (i : BayInput) : (s.setInput b i).cmp = s.cmp := rfl
@[simp] theorem State.setInput_freeCount (b : BayId) (i : BayInput) : (s.setInput b i).freeCount = s.freeCount := rfl
@[simp] theorem State.setInput_pending (b : BayId) (i : BayInput) : (s.setInput b i).pending = s.pending := rfl

@[simp] theorem State.setDrive_phase (b : BayId) (d : Drive) : (s.setDrive b d).phase = s.phase := rfl
@[simp] theorem State.setDrive_rstn (b : BayId) (d : Drive) : (s.setDrive b d).rstn = s.rstn := rfl
@[simp] theorem State.setDrive_tb (b : BayId) (d : Drive) : (s.setDrive b d).tb = s.tb := rfl
@[simp] theorem State.setDrive_tables (b : BayId) (d : Drive) : (s.setDrive b d).tables = s.tables := rfl
@[simp] theorem State.setDrive_bays (b : BayId) (d : Drive) : (s.setDrive b d).bays = s.bays := rfl
@[simp] theorem State.setDrive_inputs (b : BayId) (d : Drive) : (s.setDrive b d).inputs = s.inputs := rfl
@[simp] theorem State.setDrive_psq (b : BayId) (d : Drive) : (s.setDrive b d).psq = s.psq := rfl
@[simp] theorem State.setDrive_sensors (b : BayId) (d : Drive) : (s.setDrive b d).sensors = s.sensors := rfl
@[simp] theorem State.setDrive_therm (b : BayId) (d : Drive) : (s.setDrive b d).therm = s.therm := rfl
@[simp] theorem State.setDrive_converted (b : BayId) (d : Drive) : (s.setDrive b d).converted = s.converted := rfl
@[simp] theorem State.setDrive_drives (b : BayId) (d : Drive) : (s.setDrive b d).drives = s.drives.set b d := rfl
@[simp] theorem State.setDrive_zones (b : BayId) (d : Drive) : (s.setDrive b d).zones = s.zones := rfl
@[simp] theorem State.setDrive_fans (b : BayId) (d : Drive) : (s.setDrive b d).fans = s.fans := rfl
@[simp] theorem State.setDrive_smap (b : BayId) (d : Drive) : (s.setDrive b d).smap = s.smap := rfl
@[simp] theorem State.setDrive_len (b : BayId) (d : Drive) : (s.setDrive b d).len = s.len := rfl
@[simp] theorem State.setDrive_liu (b : BayId) (d : Drive) : (s.setDrive b d).liu = s.liu := rfl
@[simp] theorem State.setDrive_mru (b : BayId) (d : Drive) : (s.setDrive b d).mru = s.mru := rfl
@[simp] theorem State.setDrive_cmp (b : BayId) (d : Drive) : (s.setDrive b d).cmp = s.cmp := rfl
@[simp] theorem State.setDrive_freeCount (b : BayId) (d : Drive) : (s.setDrive b d).freeCount = s.freeCount := rfl
@[simp] theorem State.setDrive_pending (b : BayId) (d : Drive) : (s.setDrive b d).pending = s.pending := rfl

@[simp] theorem State.setConversion_phase (k : SensorId) (x : Sensor) (r : Int) : (s.setConversion k x r).phase = s.phase := rfl
@[simp] theorem State.setConversion_rstn (k : SensorId) (x : Sensor) (r : Int) : (s.setConversion k x r).rstn = s.rstn := rfl
@[simp] theorem State.setConversion_tb (k : SensorId) (x : Sensor) (r : Int) : (s.setConversion k x r).tb = s.tb := rfl
@[simp] theorem State.setConversion_tables (k : SensorId) (x : Sensor) (r : Int) : (s.setConversion k x r).tables = s.tables := rfl
@[simp] theorem State.setConversion_bays (k : SensorId) (x : Sensor) (r : Int) : (s.setConversion k x r).bays = s.bays := rfl
@[simp] theorem State.setConversion_inputs (k : SensorId) (x : Sensor) (r : Int) : (s.setConversion k x r).inputs = s.inputs := rfl
@[simp] theorem State.setConversion_psq (k : SensorId) (x : Sensor) (r : Int) : (s.setConversion k x r).psq = s.psq := rfl
@[simp] theorem State.setConversion_sensors (k : SensorId) (x : Sensor) (r : Int) : (s.setConversion k x r).sensors = s.sensors.set k x := rfl
@[simp] theorem State.setConversion_therm (k : SensorId) (x : Sensor) (r : Int) : (s.setConversion k x r).therm = s.therm.set k r := rfl
@[simp] theorem State.setConversion_converted (k : SensorId) (x : Sensor) (r : Int) : (s.setConversion k x r).converted = k.succ := rfl
@[simp] theorem State.setConversion_drives (k : SensorId) (x : Sensor) (r : Int) : (s.setConversion k x r).drives = s.drives := rfl
@[simp] theorem State.setConversion_zones (k : SensorId) (x : Sensor) (r : Int) : (s.setConversion k x r).zones = s.zones := rfl
@[simp] theorem State.setConversion_fans (k : SensorId) (x : Sensor) (r : Int) : (s.setConversion k x r).fans = s.fans := rfl
@[simp] theorem State.setConversion_smap (k : SensorId) (x : Sensor) (r : Int) : (s.setConversion k x r).smap = s.smap := rfl
@[simp] theorem State.setConversion_len (k : SensorId) (x : Sensor) (r : Int) : (s.setConversion k x r).len = s.len := rfl
@[simp] theorem State.setConversion_liu (k : SensorId) (x : Sensor) (r : Int) : (s.setConversion k x r).liu = s.liu := rfl
@[simp] theorem State.setConversion_mru (k : SensorId) (x : Sensor) (r : Int) : (s.setConversion k x r).mru = s.mru := rfl
@[simp] theorem State.setConversion_cmp (k : SensorId) (x : Sensor) (r : Int) : (s.setConversion k x r).cmp = s.cmp := rfl
@[simp] theorem State.setConversion_freeCount (k : SensorId) (x : Sensor) (r : Int) : (s.setConversion k x r).freeCount = s.freeCount := rfl
@[simp] theorem State.setConversion_pending (k : SensorId) (x : Sensor) (r : Int) : (s.setConversion k x r).pending = s.pending := rfl

@[simp] theorem State.setFan_phase (f : FanId) (x : Fan) : (s.setFan f x).phase = s.phase := rfl
@[simp] theorem State.setFan_rstn (f : FanId) (x : Fan) : (s.setFan f x).rstn = s.rstn := rfl
@[simp] theorem State.setFan_tb (f : FanId) (x : Fan) : (s.setFan f x).tb = s.tb := rfl
@[simp] theorem State.setFan_tables (f : FanId) (x : Fan) : (s.setFan f x).tables = s.tables := rfl
@[simp] theorem State.setFan_bays (f : FanId) (x : Fan) : (s.setFan f x).bays = s.bays := rfl
@[simp] theorem State.setFan_inputs (f : FanId) (x : Fan) : (s.setFan f x).inputs = s.inputs := rfl
@[simp] theorem State.setFan_psq (f : FanId) (x : Fan) : (s.setFan f x).psq = s.psq := rfl
@[simp] theorem State.setFan_sensors (f : FanId) (x : Fan) : (s.setFan f x).sensors = s.sensors := rfl
@[simp] theorem State.setFan_therm (f : FanId) (x : Fan) : (s.setFan f x).therm = s.therm := rfl
@[simp] theorem State.setFan_converted (f : FanId) (x : Fan) : (s.setFan f x).converted = s.converted := rfl
@[simp] theorem State.setFan_drives (f : FanId) (x : Fan) : (s.setFan f x).drives = s.drives := rfl
@[simp] theorem State.setFan_zones (f : FanId) (x : Fan) : (s.setFan f x).zones = s.zones := rfl
@[simp] theorem State.setFan_fans (f : FanId) (x : Fan) : (s.setFan f x).fans = s.fans.set f x := rfl
@[simp] theorem State.setFan_smap (f : FanId) (x : Fan) : (s.setFan f x).smap = s.smap := rfl
@[simp] theorem State.setFan_len (f : FanId) (x : Fan) : (s.setFan f x).len = s.len := rfl
@[simp] theorem State.setFan_liu (f : FanId) (x : Fan) : (s.setFan f x).liu = s.liu := rfl
@[simp] theorem State.setFan_mru (f : FanId) (x : Fan) : (s.setFan f x).mru = s.mru := rfl
@[simp] theorem State.setFan_cmp (f : FanId) (x : Fan) : (s.setFan f x).cmp = s.cmp := rfl
@[simp] theorem State.setFan_freeCount (f : FanId) (x : Fan) : (s.setFan f x).freeCount = s.freeCount := rfl
@[simp] theorem State.setFan_pending (f : FanId) (x : Fan) : (s.setFan f x).pending = s.pending := rfl

@[simp] theorem State.setShed_phase (z : ZoneId) (r : ShedRecord) : (s.setShed z r).phase = s.phase := rfl
@[simp] theorem State.setShed_rstn (z : ZoneId) (r : ShedRecord) : (s.setShed z r).rstn = s.rstn := rfl
@[simp] theorem State.setShed_tb (z : ZoneId) (r : ShedRecord) : (s.setShed z r).tb = s.tb := rfl
@[simp] theorem State.setShed_tables (z : ZoneId) (r : ShedRecord) : (s.setShed z r).tables = s.tables := rfl
@[simp] theorem State.setShed_bays (z : ZoneId) (r : ShedRecord) : (s.setShed z r).bays = s.bays := rfl
@[simp] theorem State.setShed_inputs (z : ZoneId) (r : ShedRecord) : (s.setShed z r).inputs = s.inputs := rfl
@[simp] theorem State.setShed_psq (z : ZoneId) (r : ShedRecord) : (s.setShed z r).psq = { s.psq with shed := s.psq.shed.set z r } := rfl
@[simp] theorem State.setShed_sensors (z : ZoneId) (r : ShedRecord) : (s.setShed z r).sensors = s.sensors := rfl
@[simp] theorem State.setShed_therm (z : ZoneId) (r : ShedRecord) : (s.setShed z r).therm = s.therm := rfl
@[simp] theorem State.setShed_converted (z : ZoneId) (r : ShedRecord) : (s.setShed z r).converted = s.converted := rfl
@[simp] theorem State.setShed_drives (z : ZoneId) (r : ShedRecord) : (s.setShed z r).drives = s.drives := rfl
@[simp] theorem State.setShed_zones (z : ZoneId) (r : ShedRecord) : (s.setShed z r).zones = s.zones := rfl
@[simp] theorem State.setShed_fans (z : ZoneId) (r : ShedRecord) : (s.setShed z r).fans = s.fans := rfl
@[simp] theorem State.setShed_smap (z : ZoneId) (r : ShedRecord) : (s.setShed z r).smap = s.smap := rfl
@[simp] theorem State.setShed_len (z : ZoneId) (r : ShedRecord) : (s.setShed z r).len = s.len := rfl
@[simp] theorem State.setShed_liu (z : ZoneId) (r : ShedRecord) : (s.setShed z r).liu = s.liu := rfl
@[simp] theorem State.setShed_mru (z : ZoneId) (r : ShedRecord) : (s.setShed z r).mru = s.mru := rfl
@[simp] theorem State.setShed_cmp (z : ZoneId) (r : ShedRecord) : (s.setShed z r).cmp = s.cmp := rfl
@[simp] theorem State.setShed_freeCount (z : ZoneId) (r : ShedRecord) : (s.setShed z r).freeCount = s.freeCount := rfl
@[simp] theorem State.setShed_pending (z : ZoneId) (r : ShedRecord) : (s.setShed z r).pending = s.pending := rfl

@[simp] theorem State.setApplied_phase (b : BayId) (a : Applied) : (s.setApplied b a).phase = s.phase := rfl
@[simp] theorem State.setApplied_rstn (b : BayId) (a : Applied) : (s.setApplied b a).rstn = s.rstn := rfl
@[simp] theorem State.setApplied_tb (b : BayId) (a : Applied) : (s.setApplied b a).tb = s.tb := rfl
@[simp] theorem State.setApplied_tables (b : BayId) (a : Applied) : (s.setApplied b a).tables = s.tables := rfl
@[simp] theorem State.setApplied_bays (b : BayId) (a : Applied) : (s.setApplied b a).bays = s.bays := rfl
@[simp] theorem State.setApplied_inputs (b : BayId) (a : Applied) : (s.setApplied b a).inputs = s.inputs := rfl
@[simp] theorem State.setApplied_psq (b : BayId) (a : Applied) : (s.setApplied b a).psq = s.psq := rfl
@[simp] theorem State.setApplied_sensors (b : BayId) (a : Applied) : (s.setApplied b a).sensors = s.sensors := rfl
@[simp] theorem State.setApplied_therm (b : BayId) (a : Applied) : (s.setApplied b a).therm = s.therm := rfl
@[simp] theorem State.setApplied_converted (b : BayId) (a : Applied) : (s.setApplied b a).converted = s.converted := rfl
@[simp] theorem State.setApplied_drives (b : BayId) (a : Applied) : (s.setApplied b a).drives = s.drives := rfl
@[simp] theorem State.setApplied_zones (b : BayId) (a : Applied) : (s.setApplied b a).zones = s.zones := rfl
@[simp] theorem State.setApplied_fans (b : BayId) (a : Applied) : (s.setApplied b a).fans = s.fans := rfl
@[simp] theorem State.setApplied_smap (b : BayId) (a : Applied) : (s.setApplied b a).smap = s.smap.set b a := rfl
@[simp] theorem State.setApplied_len (b : BayId) (a : Applied) : (s.setApplied b a).len = s.len := rfl
@[simp] theorem State.setApplied_liu (b : BayId) (a : Applied) : (s.setApplied b a).liu = s.liu := rfl
@[simp] theorem State.setApplied_mru (b : BayId) (a : Applied) : (s.setApplied b a).mru = s.mru := rfl
@[simp] theorem State.setApplied_cmp (b : BayId) (a : Applied) : (s.setApplied b a).cmp = s.cmp := rfl
@[simp] theorem State.setApplied_freeCount (b : BayId) (a : Applied) : (s.setApplied b a).freeCount = s.freeCount := rfl
@[simp] theorem State.setApplied_pending (b : BayId) (a : Applied) : (s.setApplied b a).pending = s.pending := rfl

@[simp] theorem State.withPending_phase (q : List Instr) : (s.withPending q).phase = s.phase := rfl
@[simp] theorem State.withPending_rstn (q : List Instr) : (s.withPending q).rstn = s.rstn := rfl
@[simp] theorem State.withPending_tb (q : List Instr) : (s.withPending q).tb = s.tb := rfl
@[simp] theorem State.withPending_tables (q : List Instr) : (s.withPending q).tables = s.tables := rfl
@[simp] theorem State.withPending_bays (q : List Instr) : (s.withPending q).bays = s.bays := rfl
@[simp] theorem State.withPending_inputs (q : List Instr) : (s.withPending q).inputs = s.inputs := rfl
@[simp] theorem State.withPending_psq (q : List Instr) : (s.withPending q).psq = s.psq := rfl
@[simp] theorem State.withPending_sensors (q : List Instr) : (s.withPending q).sensors = s.sensors := rfl
@[simp] theorem State.withPending_therm (q : List Instr) : (s.withPending q).therm = s.therm := rfl
@[simp] theorem State.withPending_converted (q : List Instr) : (s.withPending q).converted = s.converted := rfl
@[simp] theorem State.withPending_drives (q : List Instr) : (s.withPending q).drives = s.drives := rfl
@[simp] theorem State.withPending_zones (q : List Instr) : (s.withPending q).zones = s.zones := rfl
@[simp] theorem State.withPending_fans (q : List Instr) : (s.withPending q).fans = s.fans := rfl
@[simp] theorem State.withPending_smap (q : List Instr) : (s.withPending q).smap = s.smap := rfl
@[simp] theorem State.withPending_len (q : List Instr) : (s.withPending q).len = s.len := rfl
@[simp] theorem State.withPending_liu (q : List Instr) : (s.withPending q).liu = s.liu := rfl
@[simp] theorem State.withPending_mru (q : List Instr) : (s.withPending q).mru = s.mru := rfl
@[simp] theorem State.withPending_cmp (q : List Instr) : (s.withPending q).cmp = s.cmp := rfl
@[simp] theorem State.withPending_freeCount (q : List Instr) : (s.withPending q).freeCount = s.freeCount := rfl
@[simp] theorem State.withPending_pending (q : List Instr) : (s.withPending q).pending = q := rfl

@[simp] theorem State.raise_phase (k : AttentionKind) : (s.raise k).phase = s.phase := rfl
@[simp] theorem State.raise_rstn (k : AttentionKind) : (s.raise k).rstn = s.rstn := rfl
@[simp] theorem State.raise_tb (k : AttentionKind) : (s.raise k).tb = s.tb := rfl
@[simp] theorem State.raise_tables (k : AttentionKind) : (s.raise k).tables = s.tables := rfl
@[simp] theorem State.raise_bays (k : AttentionKind) : (s.raise k).bays = s.bays := rfl
@[simp] theorem State.raise_inputs (k : AttentionKind) : (s.raise k).inputs = s.inputs := rfl
@[simp] theorem State.raise_psq (k : AttentionKind) : (s.raise k).psq = s.psq := rfl
@[simp] theorem State.raise_sensors (k : AttentionKind) : (s.raise k).sensors = s.sensors := rfl
@[simp] theorem State.raise_therm (k : AttentionKind) : (s.raise k).therm = s.therm := rfl
@[simp] theorem State.raise_converted (k : AttentionKind) : (s.raise k).converted = s.converted := rfl
@[simp] theorem State.raise_drives (k : AttentionKind) : (s.raise k).drives = s.drives := rfl
@[simp] theorem State.raise_zones (k : AttentionKind) : (s.raise k).zones = s.zones := rfl
@[simp] theorem State.raise_fans (k : AttentionKind) : (s.raise k).fans = s.fans := rfl
@[simp] theorem State.raise_smap (k : AttentionKind) : (s.raise k).smap = s.smap := rfl
@[simp] theorem State.raise_len (k : AttentionKind) : (s.raise k).len = s.len := rfl
@[simp] theorem State.raise_liu (k : AttentionKind) : (s.raise k).liu = s.liu := rfl
@[simp] theorem State.raise_mru (k : AttentionKind) : (s.raise k).mru = { s.mru with attention := attentionRaise s.mru.attention k } := rfl
@[simp] theorem State.raise_cmp (k : AttentionKind) : (s.raise k).cmp = s.cmp := rfl
@[simp] theorem State.raise_freeCount (k : AttentionKind) : (s.raise k).freeCount = s.freeCount := rfl
@[simp] theorem State.raise_pending (k : AttentionKind) : (s.raise k).pending = s.pending := rfl

@[simp] theorem State.raiseIf_phase (c : Bool) (k : AttentionKind) : (s.raiseIf c k).phase = s.phase := by cases c <;> rfl
@[simp] theorem State.raiseIf_rstn (c : Bool) (k : AttentionKind) : (s.raiseIf c k).rstn = s.rstn := by cases c <;> rfl
@[simp] theorem State.raiseIf_tb (c : Bool) (k : AttentionKind) : (s.raiseIf c k).tb = s.tb := by cases c <;> rfl
@[simp] theorem State.raiseIf_tables (c : Bool) (k : AttentionKind) : (s.raiseIf c k).tables = s.tables := by cases c <;> rfl
@[simp] theorem State.raiseIf_bays (c : Bool) (k : AttentionKind) : (s.raiseIf c k).bays = s.bays := by cases c <;> rfl
@[simp] theorem State.raiseIf_inputs (c : Bool) (k : AttentionKind) : (s.raiseIf c k).inputs = s.inputs := by cases c <;> rfl
@[simp] theorem State.raiseIf_psq (c : Bool) (k : AttentionKind) : (s.raiseIf c k).psq = s.psq := by cases c <;> rfl
@[simp] theorem State.raiseIf_sensors (c : Bool) (k : AttentionKind) : (s.raiseIf c k).sensors = s.sensors := by cases c <;> rfl
@[simp] theorem State.raiseIf_therm (c : Bool) (k : AttentionKind) : (s.raiseIf c k).therm = s.therm := by cases c <;> rfl
@[simp] theorem State.raiseIf_converted (c : Bool) (k : AttentionKind) : (s.raiseIf c k).converted = s.converted := by cases c <;> rfl
@[simp] theorem State.raiseIf_drives (c : Bool) (k : AttentionKind) : (s.raiseIf c k).drives = s.drives := by cases c <;> rfl
@[simp] theorem State.raiseIf_zones (c : Bool) (k : AttentionKind) : (s.raiseIf c k).zones = s.zones := by cases c <;> rfl
@[simp] theorem State.raiseIf_fans (c : Bool) (k : AttentionKind) : (s.raiseIf c k).fans = s.fans := by cases c <;> rfl
@[simp] theorem State.raiseIf_smap (c : Bool) (k : AttentionKind) : (s.raiseIf c k).smap = s.smap := by cases c <;> rfl
@[simp] theorem State.raiseIf_len (c : Bool) (k : AttentionKind) : (s.raiseIf c k).len = s.len := by cases c <;> rfl
@[simp] theorem State.raiseIf_liu (c : Bool) (k : AttentionKind) : (s.raiseIf c k).liu = s.liu := by cases c <;> rfl
@[simp] theorem State.raiseIf_cmp (c : Bool) (k : AttentionKind) : (s.raiseIf c k).cmp = s.cmp := by cases c <;> rfl
@[simp] theorem State.raiseIf_freeCount (c : Bool) (k : AttentionKind) : (s.raiseIf c k).freeCount = s.freeCount := by cases c <;> rfl
@[simp] theorem State.raiseIf_pending (c : Bool) (k : AttentionKind) : (s.raiseIf c k).pending = s.pending := by cases c <;> rfl
@[simp] theorem State.raiseIf_true (k : AttentionKind) : s.raiseIf true k = s.raise k := rfl
@[simp] theorem State.raiseIf_false (k : AttentionKind) : s.raiseIf false k = s := rfl

end Sys2Proof.Machine
end

