-- ==== Sys2Proof/Laws/Ops.lean ====
section
/-! SUPPORT. What each shared operation over the bays, the queue and the charges can do, said once: its frame (the fields it can change at all), and the cases it
falls into. A proof about a meaning cites these and leaves the operation folded. -/

namespace Sys2Proof.Machine

variable (s : State)

/-! ### Frames: the fields that an operation can change -/

/-- From s to t, nothing has changed but the bays and the PSQ. -/
def BaysPsqFrame (s t : State) : Prop := t = { s with bays := t.bays, psq := t.psq }

/-- From s to t, nothing has changed but the bays, the PSQ, the drive sources and the attention set. -/
def PowerFrame (s t : State) : Prop :=
  t = { s with bays := t.bays, psq := t.psq, drives := t.drives, mru := { s.mru with attention := t.mru.attention } }

theorem BaysPsqFrame.trans {s t u : State} (h : BaysPsqFrame s t) (h' : BaysPsqFrame t u) : BaysPsqFrame s u := by
  unfold BaysPsqFrame at *
  rw [h] at h'
  exact h'

theorem PowerFrame.refl : PowerFrame s s := rfl

theorem PowerFrame.trans {s t u : State} (h : PowerFrame s t) (h' : PowerFrame t u) : PowerFrame s u := by
  unfold PowerFrame at *
  rw [h] at h'
  exact h'

theorem BaysPsqFrame.power {s t : State} (h : BaysPsqFrame s t) : PowerFrame s t := by
  unfold BaysPsqFrame at h
  rw [h]
  rfl

theorem State.setBay_frame (b : BayId) (r : BayRecord) : PowerFrame s (s.setBay b r) := rfl
theorem State.setShed_frame (z : ZoneId) (r : ShedRecord) : PowerFrame s (s.setShed z r) := rfl
theorem State.raise_frame (k : AttentionKind) : PowerFrame s (s.raise k) := rfl
theorem State.raiseIf_frame (c : Bool) (k : AttentionKind) : PowerFrame s (s.raiseIf c k) := by cases c <;> rfl
theorem State.leaveQueue_frame (b : BayId) : PowerFrame s (s.leaveQueue b) := rfl
theorem State.enterQueued_frame (b : BayId) : BaysPsqFrame s (s.enterQueued b) := rfl
theorem State.enterParked_frame (b : BayId) : PowerFrame s (s.enterParked b) := rfl
theorem State.grant_frame (b : BayId) : BaysPsqFrame s (s.grant b) := rfl

theorem State.exitPower_frame (b : BayId) : PowerFrame s (s.exitPower b) := by
  simp only [State.exitPower]
  split <;> rfl

theorem State.drained_frame (b : BayId) : PowerFrame s (s.drained b) := by
  simp only [State.drained]
  split
  · exact (State.enterQueued_frame s b).power
  · exact State.enterParked_frame s b

theorem State.enterEmpty_frame (b : BayId) : PowerFrame s (s.enterEmpty b) :=
  ((((State.exitPower_frame s b).trans (State.leaveQueue_frame _ b)).trans (State.setBay_frame _ b _)).trans (State.raise_frame _ _)).trans
    (State.raiseIf_frame _ _ _)

theorem State.enterRemoving_frame (b : BayId) (flag : Bool) : PowerFrame s (s.enterRemoving b flag) := by
  have h := (State.exitPower_frame s b).trans (State.setBay_frame _ b { (s.exitPower b).bays[b] with
    state := .removing, shedParked := flag, drainDeadline := some (s.now + (s.classOf b).drainTime * 100) })
  simp only [State.enterRemoving]
  split
  · exact h.trans (State.drained_frame _ b)
  · exact h

theorem State.enterPowerFault_frame (b : BayId) : PowerFrame s (s.enterPowerFault b) := by
  have h := ((State.exitPower_frame s b).trans (State.raise_frame _ .powerFault)).trans (State.raise_frame _ .bayState)
  simp only [State.enterPowerFault]
  split
  · exact h.trans (State.setBay_frame _ b _)
  · exact (h.trans (State.setBay_frame _ b _)).trans (State.raise_frame _ _)

theorem State.shedBay_frame (z : ZoneId) (b : BayId) : PowerFrame s (s.shedBay z b) :=
  ((State.raise_frame s _).trans (State.enterRemoving_frame _ b true)).trans (State.setShed_frame _ z _)

theorem State.shedDue_frame (z : ZoneId) : PowerFrame s (s.shedDue z) := by
  simp only [State.shedDue]
  split
  · exact State.shedBay_frame s z _
  · exact State.setShed_frame s z _

theorem State.shedOwed_frame (z : ZoneId) : PowerFrame s (s.shedOwed z) := by
  simp only [State.shedOwed]
  split
  · split
    · exact State.shedBay_frame s z _
    · exact PowerFrame.refl s
  · exact PowerFrame.refl s

theorem State.rampEnd_frame (b : BayId) : PowerFrame s (s.rampEnd b) :=
  PowerFrame.trans (t := State.raise _ .bayState) rfl (State.shedOwed_frame _ _)

/-! ### The cases an operation falls into -/

/-- A bay that holds no power is left as it is. -/
theorem State.exitPower_of_not_live {b : BayId} (h : s.bays[b].state.live = false) : s.exitPower b = s := by
  simp [-Fin.getElem_fin, State.exitPower, h]

/-- Drain expiry has two ends. -/
theorem State.drained_cases (b : BayId) :
    (s.bays[b].shedParked = true ∧ s.inHold b = false ∧ s.drained b = s.enterQueued b) ∨
    ((s.bays[b].shedParked = false ∨ s.inHold b = true) ∧ s.drained b = s.enterParked b) := by
  simp only [State.drained]
  cases h1 : s.bays[b].shedParked <;> cases h2 : s.inHold b <;> simp [-Fin.getElem_fin]

/-- A shed that falls due takes the candidate, or leaves the record OWED. -/
theorem State.shedDue_cases (z : ZoneId) :
    (∃ b, s.shedCandidate z = some b ∧ s.shedDue z = s.shedBay z b) ∨
    (s.shedCandidate z = none ∧ s.shedDue z = s.setShed z .owed) := by
  simp only [State.shedDue]
  cases h : s.shedCandidate z <;> simp

/-- An owed shed is taken where there is a candidate, and otherwise nothing happens. -/
theorem State.shedOwed_cases (z : ZoneId) :
    (∃ b, s.psq.shed[z] = .owed ∧ s.shedCandidate z = some b ∧ s.shedOwed z = s.shedBay z b) ∨ s.shedOwed z = s := by
  simp only [State.shedOwed]
  split
  · next ho => cases h : s.shedCandidate z <;> simp [-Fin.getElem_fin, ho]
  · exact .inr rfl

/-- A joining bay adds its entry to the queue and takes none away. -/
theorem insertEntry_perm (e : QueueEntry) (q : List QueueEntry) : (insertEntry e q).Perm (e :: q) := by
  induction q with
  | nil => exact .refl _
  | cons x xs ih =>
    simp only [insertEntry]
    split
    · exact (List.Perm.cons x ih).trans (List.Perm.swap e x xs)
    · exact .refl _

theorem mem_insertEntry {e x : QueueEntry} {q : List QueueEntry} : x ∈ insertEntry e q ↔ x = e ∨ x ∈ q := by
  rw [(insertEntry_perm e q).mem_iff, List.mem_cons]

theorem length_insertEntry (e : QueueEntry) (q : List QueueEntry) : (insertEntry e q).length = q.length + 1 := by
  rw [(insertEntry_perm e q).length_eq, List.length_cons]

/-! ### Considerations -/

/-- When the started stagger timer expires (R41). -/
theorem State.staggerExpires_iff :
    s.staggerExpires = true ↔
      ∃ start, s.psq.stagger = some start ∧ start < s.tb.now ∧ start + s.tables.limits.stagger * 10 ≤ s.tb.now := by
  unfold State.staggerExpires State.staggerPassed
  cases h : s.psq.stagger with
  | none => simp
  | some start =>
    simp only [Bool.and_eq_true, decide_eq_true_eq, Option.some.injEq, exists_eq_left']
    rfl

/-- When the link is lost (R48, R65, R82). -/
theorem State.linkLost_iff : s.linkLost = true ↔ s.liu.link = .lost ∨ (s.liu.link = .fault ∧ s.liu.lostLatch = true) := by
  unfold State.linkLost
  cases s.liu.link <;> simp

/-- What a choice says: the PSQ may grant, and the bay chosen is in the queue and fits. -/
theorem State.choice_some {b : BayId} (h : s.choice = some b) :
    s.mayGrant = true ∧ s.fits b = true ∧ b ∈ s.psq.queue.map (·.bay) := by
  simp only [State.choice] at h
  split at h
  · next hm =>
    refine ⟨hm, ?_⟩
    split at h
    · cases h
    · next e rest _ hq =>
      split at h
      · next hf =>
        cases h
        exact ⟨hf, by simp [hq]⟩
      · cases h
    · next q hord =>
      obtain ⟨e, he, rfl⟩ := Option.map_eq_some_iff.mp h
      exact ⟨List.find?_some (p := fun e : QueueEntry => s.fits e.bay) he, List.mem_map.mpr ⟨e, List.mem_of_find?_eq_some he, rfl⟩⟩
  · cases h

/-- What holds before a consideration and is kept by every grant of a choice holds after it. -/
theorem State.considerUpTo_induction {P : State → Prop} (grants : ∀ t b, P t → t.choice = some b → P (t.grant b)) :
    ∀ (n : Nat) (s : State), P s → P (State.considerUpTo n s)
  | 0, _, h => h
  | n + 1, s, h => by
    simp only [State.considerUpTo]
    cases hc : s.choice with
    | none => exact h
    | some b =>
      dsimp only
      split
      · exact State.considerUpTo_induction grants n _ (grants s b h hc)
      · exact grants s b h hc

/-- As above, for a whole consideration, which happens in a running part only. -/
theorem State.consider_induction {P : State → Prop} (h : P s)
    (grants : ∀ t b, P t → t.phase = .running → t.choice = some b → P (t.grant b)) : P s.consider := by
  simp only [State.consider]
  split
  · next hp =>
    refine (State.considerUpTo_induction (P := fun t => P t ∧ t.phase = .running) ?_ 24 s ⟨h, hp⟩).1
    exact fun t b ⟨ht, hr⟩ hc => ⟨grants t b ht hr hc, hr⟩
  · exact h

theorem State.considerIf_induction {P : State → Prop} (c : Bool) (h : P s)
    (grants : ∀ t b, P t → t.phase = .running → t.choice = some b → P (t.grant b)) : P (s.considerIf c) := by
  cases c
  · exact h
  · exact State.consider_induction s h grants

/-- A consideration changes the bays it grants and the PSQ, and nothing else. -/
theorem State.consider_frame : BaysPsqFrame s s.consider :=
  State.consider_induction s (P := BaysPsqFrame s) rfl fun t b ht _ _ => ht.trans (State.grant_frame t b)

theorem State.considerIf_frame (c : Bool) : BaysPsqFrame s (s.considerIf c) := by
  cases c
  · rfl
  · exact State.consider_frame s

/-- With no choice a consideration grants nothing. -/
theorem State.consider_of_choice_none (h : s.choice = none) : s.consider = s := by
  simp [State.consider, State.considerUpTo, h]

/-- A stagger above 0 ends a consideration at its first grant (R44). -/
theorem State.consider_of_stagger_pos {b : BayId} (hr : s.phase = .running) (h : s.choice = some b) (hs : s.tables.limits.stagger ≠ 0) :
    s.consider = s.grant b := by
  simp [State.consider, State.considerUpTo, hr, h, hs]

/-- A consideration leaves a bay that is not QUEUED as it is, where the queue holds QUEUED bays only. -/
theorem State.consider_bay {b : BayId} (hq : ∀ x ∈ s.psq.queue.map (·.bay), s.bays[x].state = .queued) (hb : s.bays[b].state ≠ .queued) :
    s.consider.bays[b] = s.bays[b] := by
  refine (State.consider_induction s
    (P := fun t => t.bays[b] = s.bays[b] ∧ ∀ x ∈ t.psq.queue.map (·.bay), t.bays[x].state = .queued) ⟨rfl, hq⟩ ?_).1
  intro t c ⟨ht, hqt⟩ _ hc
  have hcq := hqt c (State.choice_some t hc).2.2
  have hne : b ≠ c := by
    intro e
    subst e
    rw [ht] at hcq
    exact hb hcq
  have key : ∀ x : BayId, x ≠ c → (t.grant c).bays[x] = t.bays[x] := fun x hx => get_set_of_ne _ _ hx
  refine ⟨(key b hne).trans ht, ?_⟩
  intro x hx
  obtain ⟨e, he, rfl⟩ := List.mem_map.mp hx
  have he' : e ∈ t.psq.queue ∧ e.bay ≠ c := by simpa [State.grant, State.leaveQueue] using he
  rw [key e.bay he'.2]
  exact hqt e.bay (List.mem_map.mpr ⟨e, he'.1, rfl⟩)

end Sys2Proof.Machine
end

