-- ==== Sys2Proof/Laws/LinkOps.lean ====
section
/-! SUPPORT. What each shared operation of the LIU, the SMAP and the MRU can do, said once: its frame and the cases it falls into. -/

namespace Sys2Proof.Machine

variable (s : State) (l : Liu)

/-! ### The return lane -/

/-- The free return lane's three choices (R149). -/
theorem Liu.nextUp_cases :
    (∃ r rs, l.pendingReturns = r :: rs ∧ l.nextUp = { l with upLane := .ret r, pendingReturns := rs }) ∨
    (∃ q qs, l.pendingReturns = [] ∧ l.replyQueue = q :: qs ∧ l.nextUp = { l with upLane := .reply q, replyQueue := qs }) ∨
    (l.pendingReturns = [] ∧ l.replyQueue = [] ∧ l.nextUp = { l with upLane := .fill }) := by
  cases hp : l.pendingReturns with
  | cons r rs => exact .inl ⟨r, rs, rfl, by simp [Liu.nextUp, hp]⟩
  | nil =>
    cases hq : l.replyQueue with
    | cons q qs => exact .inr (.inl ⟨q, qs, rfl, rfl, by simp [Liu.nextUp, hp, hq]⟩)
    | nil => exact .inr (.inr ⟨rfl, rfl, by simp [Liu.nextUp, hp, hq]⟩)

/-- From l to l', nothing of the LIU has changed but the return lane, the pending returns and the reply queue. -/
def UpFrame (l l' : Liu) : Prop := l' = { l with upLane := l'.upLane, pendingReturns := l'.pendingReturns, replyQueue := l'.replyQueue }

theorem Liu.nextUp_frame : UpFrame l l.nextUp := by
  rcases l.nextUp_cases with ⟨r, rs, _, h⟩ | ⟨q, qs, _, _, h⟩ | ⟨_, _, h⟩ <;> rw [h] <;> rfl

theorem Liu.kickUp_frame : UpFrame l l.kickUp := by
  simp only [Liu.kickUp]
  split
  · exact l.nextUp_frame
  · rfl

theorem Liu.pushReply_frame (r : ReplyFrame) : UpFrame l (l.pushReply r) := by
  simp only [Liu.pushReply]
  split
  · have h := Liu.kickUp_frame { l with replyQueue := l.replyQueue ++ [r] }
    unfold UpFrame at h ⊢
    exact h
  · rfl

theorem Liu.pendReturn_frame (r : ReturnFrame) : UpFrame l (l.pendReturn r) := by
  simp only [Liu.pendReturn]
  split
  · have h := Liu.kickUp_frame { l with pendingReturns := l.pendingReturns ++ [r] }
    unfold UpFrame at h ⊢
    exact h
  · rfl

/-- A busy lane stays as it is. -/
theorem Liu.kickUp_of_busy (h : l.upLane ≠ .idle) : l.kickUp = l := by simp [Liu.kickUp, h]

/-- A reply joins the queue at its tail while the lane is busy and the queue holds fewer than 4 (R150). -/
theorem Liu.pushReply_of_busy {r : ReplyFrame} (hc : l.link.carriesFrames = true) (hn : l.replyQueue.length < 4) (hb : l.upLane ≠ .idle) :
    l.pushReply r = { l with replyQueue := l.replyQueue ++ [r] } := by
  simp [Liu.pushReply, hc, Config.replyQueueMax, hn, Liu.kickUp, hb]

/-- A return joins the pending returns while the lane is busy and fewer than 3 wait (R149). -/
theorem Liu.pendReturn_of_busy {r : ReturnFrame} (hc : l.link.carriesFrames = true) (hn : l.pendingReturns.length < 3)
    (hb : l.upLane ≠ .idle) : l.pendReturn r = { l with pendingReturns := l.pendingReturns ++ [r] } := by
  simp [Liu.pendReturn, hc, Config.pendingReturnsMax, hn, Liu.kickUp, hb]

/-- Nothing is made ready on a link that carries no frames (R150). -/
theorem Liu.pushReply_of_quiet {r : ReplyFrame} (hc : l.link.carriesFrames = false) : l.pushReply r = l := by
  simp [Liu.pushReply, hc]

theorem Liu.pendReturn_of_quiet {r : ReturnFrame} (hc : l.link.carriesFrames = false) : l.pendReturn r = l := by
  simp [Liu.pendReturn, hc]

/-- A reply is discarded where the queue holds 4 (R150). -/
theorem Liu.pushReply_of_full {r : ReplyFrame} (h : 4 ≤ l.replyQueue.length) : l.pushReply r = l := by
  simp [Liu.pushReply, Config.replyQueueMax, Nat.not_lt.mpr h]

/-- A return is discarded where 3 wait (R149). -/
theorem Liu.pendReturn_of_full {r : ReturnFrame} (h : 3 ≤ l.pendingReturns.length) : l.pendReturn r = l := by
  simp [Liu.pendReturn, Config.pendingReturnsMax, Nat.not_lt.mpr h]

/-- A reply that is ready on an idle lane: the lane takes its next frame at once (R149). -/
theorem Liu.pushReply_of_idle {r : ReplyFrame} (hc : l.link.carriesFrames = true) (hn : l.replyQueue.length < 4) (hi : l.upLane = .idle) :
    l.pushReply r = Liu.nextUp { l with replyQueue := l.replyQueue ++ [r] } := by
  simp [Liu.pushReply, hc, Config.replyQueueMax, hn, Liu.kickUp, hi]

/-- A return that is ready on an idle lane: the lane takes its next frame at once (R149). -/
theorem Liu.pendReturn_of_idle {r : ReturnFrame} (hc : l.link.carriesFrames = true) (hn : l.pendingReturns.length < 3)
    (hi : l.upLane = .idle) : l.pendReturn r = Liu.nextUp { l with pendingReturns := l.pendingReturns ++ [r] } := by
  simp [Liu.pendReturn, hc, Config.pendingReturnsMax, hn, Liu.kickUp, hi]

/-- A reply that is the part's own changes the LIU's queue and lane and nothing else. -/
theorem State.reply_frame (tag : Byte) (status : Status) (payload : List Byte) :
    s.reply tag status payload = { s with liu := (s.reply tag status payload).liu } ∧ UpFrame s.liu (s.reply tag status payload).liu :=
  ⟨rfl, Liu.pushReply_frame _ _⟩

/-! ### The downstream lane -/

/-- From l to l', nothing of the LIU has changed but the downstream lane and the frames that wait to be forwarded. -/
def DownFrameOnly (l l' : Liu) : Prop := l' = { l with downLane := l'.downLane, forwardQueue := l'.forwardQueue }

theorem Liu.nextDown_frame : DownFrameOnly l l.nextDown := by
  simp only [Liu.nextDown]
  split
  · cases l.forwardQueue <;> simp [DownFrameOnly]
  · rfl

theorem Liu.kickDown_frame : DownFrameOnly l l.kickDown := by
  simp only [Liu.kickDown]
  split
  · exact l.nextDown_frame
  · rfl

/-- A lane that sends, or one whose port or link is not ALIGNED, stays as it is (R146). -/
theorem Liu.kickDown_of_not (h : l.link ≠ .aligned ∨ l.port ≠ .aligned ∨ l.downLane ≠ .idle) : l.kickDown = l := by
  unfold Liu.kickDown
  rcases h with h | h | h <;> simp [h]

/-- A quiet lane of an ALIGNED port on an ALIGNED link takes its next frame (R146). -/
theorem Liu.kickDown_of_quiet (hl : l.link = .aligned) (hp : l.port = .aligned) (hd : l.downLane = .idle) : l.kickDown = l.nextDown := by
  simp [Liu.kickDown, hl, hp, hd]

theorem Liu.forward_frame (f : DownFrame) : DownFrameOnly l (l.forward f) := by
  have h := Liu.kickDown_frame { l with forwardQueue := l.forwardQueue ++ [f] }
  unfold DownFrameOnly at h ⊢
  exact h

/-! ### The outstanding sweep list -/

/-- From s to t, nothing has changed but the LIU and the attention set. -/
def LinkFrame (s t : State) : Prop := t = { s with liu := t.liu, mru := { s.mru with attention := t.mru.attention } }

theorem LinkFrame.refl : LinkFrame s s := rfl

theorem LinkFrame.trans {s t u : State} (h : LinkFrame s t) (h' : LinkFrame t u) : LinkFrame s u := by
  unfold LinkFrame at *
  rw [h] at h'
  exact h'

theorem State.originate_frame (n : Byte) : LinkFrame s (s.originate n) := rfl

theorem State.giveUp_frame : LinkFrame s s.giveUp := by
  simp only [State.giveUp]
  split <;> rfl

theorem State.giveUpMany_frame (n : Nat) : LinkFrame s (State.giveUpMany n s) := by
  induction n generalizing s with
  | zero => rfl
  | succ n ih => exact s.giveUp_frame.trans (ih _)

theorem State.giveUpThrough_frame (n : Byte) : LinkFrame s (s.giveUpThrough n) := by
  simp only [State.giveUpThrough]
  split
  · exact s.giveUpMany_frame _
  · exact LinkFrame.refl s

theorem State.makeRoom_frame : LinkFrame s s.makeRoom := by
  simp only [State.makeRoom]
  split
  · exact LinkFrame.refl s
  · exact s.giveUp_frame

theorem State.appendOutstanding_frame (n : Byte) : LinkFrame s (s.appendOutstanding n) :=
  ((s.giveUpThrough_frame n).trans (State.makeRoom_frame _)).trans rfl

/-- The whole of a move of the error count (R141). -/
theorem State.moveErrorCount_eq (n : Nat) :
    s.moveErrorCount n = { s with
      liu := { s.liu with errorCount := n }
      mru := { s.mru with
        attention :=
          if s.liu.errorCount < 96 ∧ 96 ≤ n then attentionRaise s.mru.attention .linkWarning else s.mru.attention } } := by
  unfold State.moveErrorCount Config.errorWarning State.raiseIf
  by_cases h1 : s.liu.errorCount < 96 <;> by_cases h2 : 96 ≤ n <;> simp only [h1, h2, decide_true, decide_false] <;> rfl

/-- A count that falls raises nothing. -/
theorem State.moveErrorCount_of_le {n : Nat} (h : n ≤ s.liu.errorCount) :
    s.moveErrorCount n = { s with liu := { s.liu with errorCount := n } } := by
  rw [State.moveErrorCount_eq, if_neg (by omega)]

theorem State.moveErrorCount_frame (n : Nat) : LinkFrame s (s.moveErrorCount n) := by
  rw [State.moveErrorCount_eq]
  rfl

/-- A probe released touches the downstream port's fields alone. -/
theorem Liu.releaseProbe_frame (now : Nat) :
    l.releaseProbe now = { l with
      port := (l.releaseProbe now).port, probeStart := (l.releaseProbe now).probeStart, probeCount := (l.releaseProbe now).probeCount
      probeAnswer := (l.releaseProbe now).probeAnswer, retryDue := (l.releaseProbe now).retryDue
      returnWatch := (l.releaseProbe now).returnWatch, downLane := (l.releaseProbe now).downLane
      forwardQueue := (l.releaseProbe now).forwardQueue } := by
  simp only [Liu.releaseProbe]
  split <;> rfl

/-- What taking a valid frame in ALIGNED or SILENT does to the LIU, and that it does nothing else (R137, R141). -/
theorem State.acceptFrame_taken (h : s.liu.link = .aligned ∨ s.liu.link = .silent) :
    s.acceptFrame = { s with liu := s.acceptFrame.liu } ∧
    s.acceptFrame.liu = { s.acceptFrame.liu with
      link := .aligned, silenceStart := some s.tb.now, frameTaken := true, errorCount := s.liu.errorCount - 1
      position := s.liu.position, upLane := s.liu.upLane, pendingReturns := s.liu.pendingReturns, replyQueue := s.liu.replyQueue
      outstanding := s.liu.outstanding, lostLatch := s.liu.lostLatch, alternation := s.liu.alternation
      trainWord := s.liu.trainWord, answered := s.liu.answered } := by
  rcases h with h | h
  · simp only [State.acceptFrame, h]
    rw [State.moveErrorCount_of_le _ (by simp)]
    exact ⟨rfl, by rw [← h]; rfl⟩
  · simp only [State.acceptFrame, h]
    rw [State.moveErrorCount_of_le _ (by rw [Liu.releaseProbe_frame]; simp)]
    refine ⟨rfl, ?_⟩
    rw [Liu.releaseProbe_frame]
    rfl

/-- In ALIGNED the downstream port is not touched by the taking of a frame. -/
theorem State.acceptFrame_aligned (h : s.liu.link = .aligned) :
    s.acceptFrame = { s with
      liu := { s.liu with silenceStart := some s.tb.now, frameTaken := true, errorCount := s.liu.errorCount - 1 } } := by
  simp only [State.acceptFrame, h]
  rw [State.moveErrorCount_of_le _ (by simp)]
  rfl

theorem State.acceptFrame_frame : LinkFrame s s.acceptFrame := by
  simp only [State.acceptFrame]
  split
  · rfl
  · exact LinkFrame.trans (t := { s with liu := { s.liu with silenceStart := some s.now, frameTaken := true } }) rfl
      (State.moveErrorCount_frame _ _)
  · exact LinkFrame.trans
      (t := { s with liu := Liu.releaseProbe { s.liu with link := .aligned, silenceStart := some s.now, frameTaken := true } s.now }) rfl
      (State.moveErrorCount_frame _ _)
  · rfl

theorem State.resumeDown_frame : LinkFrame s s.resumeDown := rfl

/-! ### The link's loss and FAULT -/

/-- A link that becomes lost changes drive sources, the link-lost mark, the applied sweep, and what its consideration grants. -/
theorem State.becomeLost_frame :
    s.becomeLost = { s with
      drives := s.becomeLost.drives, len := { s.len with linkLost := true }, smap := Vector.replicate 24 Applied.initial
      bays := s.becomeLost.bays, psq := s.becomeLost.psq } := by
  have h := State.consider_frame { s with
    drives := Vector.ofFn fun b => if s.bays[b].state = .powered then (s.drives[b]).goStale else s.drives[b]
    len := { s.len with linkLost := true }
    smap := Vector.replicate 24 Applied.initial }
  unfold BaysPsqFrame at h
  simp only [State.becomeLost]
  rw [h]

/-- The LIU after an entry to FAULT (R139). -/
theorem State.enterFault_liu :
    s.enterFault.liu = { s.liu.clearUp.portOff with
      link := .fault, outstanding := [], alternation := 0, trainWord := none, frameTaken := false, lostLatch := s.autonomyPassed } := by
  simp only [State.enterFault]
  split
  · rw [State.becomeLost_frame]
  · rfl

/-- An entry to FAULT leaves the MRU as it is. -/
theorem State.enterFault_mru : s.enterFault.mru = s.mru := by
  simp only [State.enterFault]
  split
  · rw [State.becomeLost_frame]
  · rfl

/-! ### The end of a RESTART, and of a bay transition -/

/-- The MRU waits in SENDING with its reply queued, or the controller reset follows at once (R178). -/
theorem State.finishRestart_cases (tag : Byte) :
    (s.liu.link.carriesFrames = true ∧ s.liu.replyQueue.length < 4 ∧
      s.finishRestart tag = { s with
        mru := { s.mru with state := .sending tag }
        liu := s.liu.pushReply
          { source := positionByte s.liu.position, tag := tag, status := 0, payload := [], restart := true } }) ∨
    ((s.liu.link.carriesFrames = false ∨ 4 ≤ s.liu.replyQueue.length) ∧ s.finishRestart tag = s.controllerReset false) := by
  simp only [State.finishRestart, Config.replyQueueMax]
  cases h1 : s.liu.link.carriesFrames
  · exact .inr ⟨.inl rfl, by simp⟩
  · by_cases h2 : s.liu.replyQueue.length < 4
    · exact .inl ⟨rfl, h2, by simp [h2, Status.code]⟩
    · exact .inr ⟨.inr (by omega), by simp [h2]⟩

/-- Quiesce reached ends a QUIESCING RESTART, and otherwise nothing happens (R49). -/
theorem State.reportQuiesce_cases :
    (∃ tag taken, s.mru.state = .quiescing tag taken ∧ s.quiesced = true ∧ s.reportQuiesce = s.finishRestart tag) ∨
    s.reportQuiesce = s := by
  simp only [State.reportQuiesce]
  cases h : s.mru.state with
  | quiescing tag taken =>
    cases hq : s.quiesced
    · exact .inr (by simp)
    · exact .inl ⟨tag, taken, rfl, rfl, by simp⟩
  | idle => exact .inr rfl
  | sending tag => exact .inr rfl

/-- With no RESTART held a bay transition ends with its consideration. -/
theorem State.afterBay_of_not_quiescing (c : Bool) (h : ∀ tag taken, s.mru.state ≠ .quiescing tag taken) :
    s.afterBay c = s.considerIf c := by
  have hm : (s.considerIf c).mru = s.mru := by
    rw [State.considerIf_frame s c]
  simp only [State.afterBay, State.reportQuiesce, hm]

/-- Where the MRU is not SENDING, the emptying of the LIU's queues ends no RESTART. -/
theorem State.replyLost_of_not_sending (h : ∀ tag, s.mru.state ≠ .sending tag) : s.replyLost = s := by
  simp only [State.replyLost]

/-! ### Requests -/

/-- What a request handed to the MRU can do (R168, R181). -/
theorem State.hand_cases (tag : Byte) (kind : RequestKind) (r : Request) :
    (s.phase ≠ .running ∧ s.hand tag kind r = s) ∨
    (s.phase = .running ∧ s.mru.state = .idle ∧ (s.mru.saveInProgress = false ∨ kind.reads = true) ∧
      s.hand tag kind r = s.serve tag r) ∨
    (s.phase = .running ∧ ¬ (s.mru.state = .idle ∧ (s.mru.saveInProgress = false ∨ kind.reads = true)) ∧
      s.hand tag kind r = s.reply tag .busy []) := by
  simp only [State.hand]
  split
  · next hp =>
    split
    · next h => exact .inr (.inl ⟨hp, h.1, h.2, rfl⟩)
    · next h => exact .inr (.inr ⟨hp, h, rfl⟩)
  · next hp => exact .inl ⟨hp, rfl⟩

/-- A running part whose MRU is free serves the request. -/
theorem State.hand_of_serves (tag : Byte) (kind : RequestKind) (r : Request) (hp : s.phase = .running) (hm : s.mru.state = .idle)
    (hs : s.mru.saveInProgress = false ∨ kind.reads = true) : s.hand tag kind r = s.serve tag r := by
  simp only [State.hand, if_pos hp]
  exact if_pos ⟨hm, hs⟩

end Sys2Proof.Machine
end

