-- ==== Sys2Proof/Laws/Memory.lean ====
section
/-! SUPPORT. The laws of the configuration memory: a read after a write, every other byte unchanged, and the canonical form kept by every operation. -/

namespace Sys2Proof.Machine

/-! ### The canonical form -/

theorem Memory.wfFrom_mono {lo lo' : Nat} {m : Memory} (h : lo' ≤ lo) (hm : Memory.wfFrom lo m = true) : Memory.wfFrom lo' m = true := by
  cases m with
  | nil => rfl
  | cons x rest =>
    simp only [Memory.wfFrom, Bool.and_eq_true, decide_eq_true_eq] at hm ⊢
    exact ⟨⟨by omega, hm.1.2⟩, hm.2⟩

theorem Memory.wfFrom_cell_append {lo a : Nat} {v : Byte} {rest : Memory} (h : lo ≤ a) (hr : Memory.wfFrom (a + 1) rest = true) :
    Memory.wfFrom lo (Memory.cell a v ++ rest) = true := by
  unfold Memory.cell
  split
  · exact Memory.wfFrom_mono (by omega) hr
  · next hv => simp [Memory.wfFrom, h, hv, hr]

theorem Memory.wfFrom_write {lo a : Nat} {m : Memory} (v : Byte) (h : lo ≤ a) (hm : Memory.wfFrom lo m = true) :
    Memory.wfFrom lo (Memory.write m a v) = true := by
  induction m generalizing lo with
  | nil => simpa [Memory.write] using Memory.wfFrom_cell_append (v := v) (rest := []) h rfl
  | cons x rest ih =>
    obtain ⟨k, w⟩ := x
    simp only [Memory.wfFrom, Bool.and_eq_true, decide_eq_true_eq] at hm
    obtain ⟨⟨hlo, hw⟩, hr⟩ := hm
    simp only [Memory.write]
    split
    · next hak =>
      refine Memory.wfFrom_cell_append h ?_
      simp [Memory.wfFrom, hw, hr, hak]
    · split
      · next hak => subst hak; exact Memory.wfFrom_cell_append h hr
      · next hak hne => simp [Memory.wfFrom, hlo, hw, ih (by omega) hr]

/-- A write keeps the canonical form. -/
theorem Memory.wf_write {m : Memory} (a : Nat) (v : Byte) (h : Memory.wf m = true) : Memory.wf (Memory.write m a v) = true :=
  Memory.wfFrom_write v (Nat.zero_le a) h

theorem Memory.wf_writeBytes {m : Memory} (a : Nat) (bytes : List Byte) (h : Memory.wf m = true) :
    Memory.wf (Memory.writeBytes m a bytes) = true := by
  induction bytes generalizing m a with
  | nil => exact h
  | cons v vs ih => exact ih _ (Memory.wf_write a v h)

theorem Memory.wf_writeLanding (lands : Nat → Bool) {m : Memory} (a : Nat) (bytes : List Byte) (h : Memory.wf m = true) :
    Memory.wf (Memory.writeLanding lands m a bytes) = true := by
  induction bytes generalizing m a with
  | nil => exact h
  | cons v vs ih =>
    apply ih
    split
    · exact Memory.wf_write a v h
    · exact h

/-! ### The CMP's write and its wait -/

/-- A write is sent exactly where it stands in front of the save and its wait has begun. -/
theorem Cmp.sentWrite_eq_some {c : Cmp} {w : SaveWrite} :
    c.sentWrite = some w ↔ (∃ rest, c.state = .saving (w :: rest)) ∧ ∃ start, c.waitStart = some start := by
  unfold Cmp.sentWrite
  split
  · next v rest h => cases hw : c.waitStart <;> simp [h]
  · next h => simpa using fun rest hr => absurd hr (h w rest)

/-- When the memory acknowledges its address (R182). -/
theorem Cmp.acknowledges_iff {c : Cmp} {now : Nat} :
    c.acknowledges now = true ↔ (∃ t, c.answersFrom = some t ∧ t ≤ now) ∧ ∀ t, c.heldLow = some t → now < t := by
  unfold Cmp.acknowledges
  cases c.answersFrom <;> cases c.heldLow <;> simp [reached]

/-- What the CMP can do at a tick: it begins the reading of a load, it sends the erase of a save, or nothing (R182). -/
theorem Cmp.atTick_cases (c : Cmp) (now : Nat) :
    (c.state = .loading ∧ c.readStart = none ∧ (∃ start, c.waitStart = some start ∧ now ≤ start + 10) ∧ c.acknowledges now = true ∧
      c.atTick now = { c with readStart := some now }) ∨
    ((∃ writes, c.state = .saving writes) ∧ c.waitStart = none ∧ c.acknowledges now = true ∧ c.atTick now = { c with waitStart := some now }) ∨
    c.atTick now = c := by
  unfold Cmp.atTick
  split
  · next start hs hw =>
    split
    · next h =>
      simp only [Bool.and_eq_true, Option.isNone_iff_eq_none, Cmp.answered, decide_eq_true_eq] at h
      exact .inl ⟨hs, h.1, ⟨start, hw, h.2.1⟩, h.2.2, rfl⟩
    · exact .inr (.inr rfl)
  · next writes hs hw =>
    split
    · next h => exact .inr (.inl ⟨⟨writes, hs⟩, hw, h, rfl⟩)
    · exact .inr (.inr rfl)
  · exact .inr (.inr rfl)

/-- A tick changes nothing of the CMP but the starts of its wait and of its reading. -/
theorem Cmp.atTick_frame (c : Cmp) (now : Nat) :
    c.atTick now = { c with waitStart := (c.atTick now).waitStart, readStart := (c.atTick now).readStart } := by
  rcases c.atTick_cases now with ⟨-, -, -, -, h⟩ | ⟨-, -, -, h⟩ | h <;> rw [h]

@[simp] theorem Cmp.atTick_mem (c : Cmp) (now : Nat) : (c.atTick now).mem = c.mem := by rw [Cmp.atTick_frame]
@[simp] theorem Cmp.atTick_state (c : Cmp) (now : Nat) : (c.atTick now).state = c.state := by rw [Cmp.atTick_frame]

/-- A wait is over without an answer where its 10 ms are, unless the memory acknowledges at their very end (R182). -/
theorem Cmp.unanswered_iff {c : Cmp} {start now : Nat} :
    c.unanswered start now = true ↔ start + 10 ≤ now ∧ ¬ (now = start + 10 ∧ c.acknowledges now = true) := by
  unfold Cmp.unanswered Cmp.answered
  have bound : start + Config.acknowledgeMs = start + 10 := rfl
  cases c.acknowledges now <;>
    simp only [Bool.and_eq_true, decide_eq_true_eq, Bool.not_eq_true', Bool.and_true, Bool.and_false, decide_eq_false_iff_not, bound] <;>
    simp
  omega

/-- The memory's acknowledge falls due from the end of its longest internal cycle on, for as long as the wait lasts (R182, R192). -/
theorem Cmp.acknowledgeDue_iff {c : Cmp} {now : Nat} :
    c.acknowledgeDue now = true ↔
      ∃ start, c.waitStart = some start ∧ start + 5 ≤ now ∧ now ≤ start + 10 ∧ c.acknowledges now = true := by
  unfold Cmp.acknowledgeDue Cmp.answered
  cases c.waitStart with
  | none => simp
  | some start =>
    simp only [Bool.and_eq_true, decide_eq_true_eq, Option.some.injEq, exists_eq_left']
    exact Iff.rfl

/-- No acknowledge falls due together with a failure of the wait. -/
theorem Cmp.answered_not_unanswered {c : Cmp} {start now : Nat} (h : c.answered start now = true) : c.unanswered start now = false := by
  simp [Cmp.unanswered, h]

/-- What a failing write leaves is in the canonical form, whichever bytes landed. -/
theorem Cmp.wf_failWrite (c : Cmp) (count : Nat) (h : Memory.wf c.mem = true) : Memory.wf (c.failWrite count) = true := by
  unfold Cmp.failWrite
  split
  · split
    · exact h
    · exact Memory.wf_writeLanding _ _ _ h
  · exact h

/-- The write that a controller reset lets land keeps the canonical form. -/
theorem Cmp.wf_landSent (c : Cmp) (h : Memory.wf c.mem = true) : Memory.wf c.landSent = true := by
  unfold Cmp.landSent
  split
  · exact Memory.wf_writeBytes _ _ h
  · exact h

/-- The memory after power-on reset is in the canonical form. -/
theorem State.wf_reset_mem : Memory.wf State.reset.cmp.mem = true := rfl

/-! ### Reads after writes -/

theorem Memory.read_of_lt {lo a : Nat} {m : Memory} (hm : Memory.wfFrom lo m = true) (h : a < lo) : Memory.read m a = blankByte := by
  induction m generalizing lo with
  | nil => rfl
  | cons x rest ih =>
    obtain ⟨k, w⟩ := x
    simp only [Memory.wfFrom, Bool.and_eq_true, decide_eq_true_eq] at hm
    simp only [Memory.read]
    rw [if_neg (by omega)]
    exact ih hm.2 (by omega)

theorem Memory.read_cell_append_self {a : Nat} {v : Byte} {rest : Memory} (hr : Memory.wfFrom (a + 1) rest = true) :
    Memory.read (Memory.cell a v ++ rest) a = v := by
  unfold Memory.cell
  split
  · next h => rw [h]; exact Memory.read_of_lt hr (by omega)
  · simp [Memory.read]

theorem Memory.read_cell_append_of_ne {a b : Nat} (v : Byte) (rest : Memory) (h : b ≠ a) :
    Memory.read (Memory.cell a v ++ rest) b = Memory.read rest b := by
  unfold Memory.cell
  split
  · rfl
  · simp [Memory.read, Ne.symm h]

theorem Memory.read_write_self_from {lo a : Nat} {m : Memory} (v : Byte) (hm : Memory.wfFrom lo m = true) :
    Memory.read (Memory.write m a v) a = v := by
  induction m generalizing lo with
  | nil => simpa [Memory.write] using Memory.read_cell_append_self (a := a) (v := v) (rest := []) rfl
  | cons x rest ih =>
    obtain ⟨k, w⟩ := x
    simp only [Memory.wfFrom, Bool.and_eq_true, decide_eq_true_eq] at hm
    obtain ⟨⟨hlo, hw⟩, hr⟩ := hm
    simp only [Memory.write]
    split
    · next hak => exact Memory.read_cell_append_self (by simp [Memory.wfFrom, hw, hr]; omega)
    · split
      · next hak => subst hak; exact Memory.read_cell_append_self hr
      · next hak hne =>
        simp only [Memory.read]
        rw [if_neg (by omega)]
        exact ih hr

/-- A read of the byte written gives the value written. -/
theorem Memory.read_write_self {m : Memory} (a : Nat) (v : Byte) (h : Memory.wf m = true) : Memory.read (Memory.write m a v) a = v :=
  Memory.read_write_self_from v h

/-- A write leaves every other byte as it was. -/
theorem Memory.read_write_of_ne (m : Memory) {a b : Nat} (v : Byte) (h : b ≠ a) : Memory.read (Memory.write m a v) b = Memory.read m b := by
  induction m with
  | nil => simpa [Memory.write] using Memory.read_cell_append_of_ne v [] h
  | cons x rest ih =>
    obtain ⟨k, w⟩ := x
    simp only [Memory.write]
    split
    · exact Memory.read_cell_append_of_ne v _ h
    · split
      · next hak =>
        subst hak
        rw [Memory.read_cell_append_of_ne v rest h]
        simp [Memory.read, Ne.symm h]
      · simp [Memory.read, ih]

/-- A write of bytes leaves every byte outside them as it was. -/
theorem Memory.read_writeBytes_outside (m : Memory) {a b : Nat} (bytes : List Byte) (h : b < a ∨ a + bytes.length ≤ b) :
    Memory.read (Memory.writeBytes m a bytes) b = Memory.read m b := by
  induction bytes generalizing m a with
  | nil => rfl
  | cons v vs ih =>
    simp only [List.length_cons] at h
    simp only [Memory.writeBytes]
    rw [ih _ (by omega), Memory.read_write_of_ne m v (by omega)]

/-- A write of bytes puts each in its place. -/
theorem Memory.read_writeBytes_inside {m : Memory} (a : Nat) (bytes : List Byte) (h : Memory.wf m = true) (i : Nat) (hi : i < bytes.length) :
    Memory.read (Memory.writeBytes m a bytes) (a + i) = bytes[i] := by
  induction bytes generalizing m a i with
  | nil => simp at hi
  | cons v vs ih =>
    simp only [Memory.writeBytes]
    cases i with
    | zero => rw [Memory.read_writeBytes_outside _ vs (by omega)]; exact Memory.read_write_self a v h
    | succ n =>
      have := ih (a + 1) (Memory.wf_write a v h) n (by simpa using hi)
      rw [show a + (n + 1) = a + 1 + n by omega, this]
      rfl

theorem Memory.eq_of_read_from {lo : Nat} {m m' : Memory} (hm : Memory.wfFrom lo m = true) (hm' : Memory.wfFrom lo m' = true)
    (h : ∀ a, Memory.read m a = Memory.read m' a) : m = m' := by
  induction m generalizing lo m' with
  | nil =>
    cases m' with
    | nil => rfl
    | cons y rest' =>
      obtain ⟨k, w⟩ := y
      simp only [Memory.wfFrom, Bool.and_eq_true, decide_eq_true_eq] at hm'
      have := h k
      simp only [Memory.read, if_true] at this
      exact absurd this.symm hm'.1.2
  | cons x rest ih =>
    obtain ⟨k, w⟩ := x
    have hx := hm
    simp only [Memory.wfFrom, Bool.and_eq_true, decide_eq_true_eq] at hm
    cases m' with
    | nil =>
      have := h k
      simp only [Memory.read, if_true] at this
      exact absurd this hm.1.2
    | cons y rest' =>
      obtain ⟨k', w'⟩ := y
      have hy := hm'
      simp only [Memory.wfFrom, Bool.and_eq_true, decide_eq_true_eq] at hm'
      have hk : k = k' := by
        rcases Nat.lt_trichotomy k k' with hlt | heq | hgt
        · have := h k
          simp only [Memory.read, if_true] at this
          rw [if_neg (by omega), Memory.read_of_lt hm'.2 (by omega)] at this
          exact absurd this hm.1.2
        · exact heq
        · have := h k'
          simp only [Memory.read, if_true] at this
          rw [if_neg (by omega), Memory.read_of_lt hm.2 (by omega)] at this
          exact absurd this.symm hm'.1.2
      subst hk
      have hw : w = w' := by
        have := h k
        simpa [Memory.read] using this
      subst hw
      congr 1
      apply ih hm.2 hm'.2
      intro a
      rcases Nat.lt_or_ge a (k + 1) with hlt | hge
      · rw [Memory.read_of_lt hm.2 hlt, Memory.read_of_lt hm'.2 hlt]
      · have := h a
        simp only [Memory.read] at this
        rwa [if_neg (by omega), if_neg (by omega)] at this

/-- Two memories in the canonical form that read alike at every offset are the same list. -/
theorem Memory.eq_of_read {m m' : Memory} (hm : Memory.wf m = true) (hm' : Memory.wf m' = true)
    (h : ∀ a, Memory.read m a = Memory.read m' a) : m = m' :=
  Memory.eq_of_read_from hm hm' h

/-- What a read transfer carries: every byte is acknowledged but the last (R182). -/
theorem readData_concat (bytes : List Byte) (b : Byte) : readData (bytes ++ [b]) = bytes.map (.read · true) ++ [.read b false] := by
  induction bytes with
  | nil => rfl
  | cons x xs ih => cases xs <;> simp_all [readData]

/-- A failing write changes no byte outside the bytes sent. -/
theorem Memory.read_writeLanding_outside (lands : Nat → Bool) (m : Memory) {a b : Nat} (bytes : List Byte)
    (h : b < a ∨ a + bytes.length ≤ b) : Memory.read (Memory.writeLanding lands m a bytes) b = Memory.read m b := by
  induction bytes generalizing m a with
  | nil => rfl
  | cons v vs ih =>
    simp only [List.length_cons] at h
    simp only [Memory.writeLanding]
    rw [ih _ (by omega)]
    split
    · exact Memory.read_write_of_ne m v (by omega)
    · rfl

end Sys2Proof.Machine
end

