-- ==== Sys2Proof/WellFormed.lean ====
section
/-! DEFINITION. Which commands the outside can give: the ranges of the operands that their types do not already bound. -/

namespace Sys2Proof

/-- A converter reading, in half-degrees from −64.0 °C to 191.5 °C (R55). -/
def readingInRange (r : Int) : Bool := decide (-128 ≤ r ∧ r ≤ 383)

/-- The request kinds of R196. -/
def definedKind (k : Byte) : Bool :=
  k == 0x10 || k == 0x11 || k == 0x20 || k == 0x21 || k == 0x30 || k == 0x31 || k == 0x32 || k == 0x40 || k == 0x41

/-- The operands lie where a frame of the link (R131) or the converter (R55) can put them. -/
def Instr.wellFormed : Instr → Bool
  | .sensorConversion _ r => readingInRange r
  | .upstreamRequest _ _ _ p => decide (p.length ≤ 240)
  | .downstreamReply _ _ _ p => decide (p.length ≤ 240)
  | .tableWrite _ _ _ _ e => decide (e.length ≤ 237)
  | .temperatureReport _ _ ps => decide (ps.length ≤ 119)
  | .unknownKind _ k => !definedKind k
  | _ => true

end Sys2Proof
end

