-- ==== Sys2Proof/Laws/PerInstr.lean ====
section
/-! SUPPORT. A statement about every command of the table, made command by command. -/

namespace Sys2Proof.Laws.WellFormed

open Sys2Proof Sys2Proof.Machine

/-- A command that a frame of the link is read as (R131, R196) is well-formed, whichever lane the frame came on. -/
def Statement (i : Instr) : Prop :=
  ∀ f : Frame, f.wf = true → upstreamCommand (.frame f) = i ∨ downstreamCommand (.frame f) = i → i.wellFormed = true

/-- What the upstream input reads from a frame. -/
theorem upstream_cases (f : Frame) :
    (∃ n slots, upstreamCommand (.frame f) = .upstreamSweep n slots) ∨
    (∃ t g k p, f.kind = .request ∧ f.payload = t :: g :: k :: p ∧ upstreamCommand (.frame f) = .upstreamRequest t g k p) ∨
    upstreamCommand (.frame f) = .upstreamFill := by
  obtain ⟨kind, payload⟩ := f
  unfold upstreamCommand
  split <;> simp_all

/-- What the return input reads from a frame. -/
theorem downstream_cases (f : Frame) :
    (∃ n a o slots, downstreamCommand (.frame f) = .downstreamReturn n a o slots) ∨
    (∃ s g st p, f.kind = .reply ∧ f.payload = s :: g :: st :: p ∧ downstreamCommand (.frame f) = .downstreamReply s g st p) ∨
    downstreamCommand (.frame f) = .downstreamOtherFrame := by
  obtain ⟨kind, payload⟩ := f
  unfold downstreamCommand
  split <;> simp_all

theorem powerOnReset : Statement .powerOnReset := fun _ _ _ => rfl
theorem controllerReset : Statement .controllerReset := fun _ _ _ => rfl
theorem rstnRelease : Statement .rstnRelease := fun _ _ _ => rfl
theorem loadCompletion (memoryFailure : Bool) : Statement (.loadCompletion memoryFailure) := fun _ _ _ => rfl
theorem qualifiedInsertion (b : BayId) : Statement (.qualifiedInsertion b) := fun _ _ _ => rfl
theorem settlingBounce (b : BayId) : Statement (.settlingBounce b) := fun _ _ _ => rfl
theorem insertionDebounceExpiry (b : BayId) : Statement (.insertionDebounceExpiry b) := fun _ _ _ => rfl
theorem qualifiedRemoval (b : BayId) : Statement (.qualifiedRemoval b) := fun _ _ _ => rfl
theorem qualifiedFltAssertion (b : BayId) : Statement (.qualifiedFltAssertion b) := fun _ _ _ => rfl
theorem qualifiedPgDeassertion (b : BayId) : Statement (.qualifiedPgDeassertion b) := fun _ _ _ => rfl
theorem qualifiedPgAssertion (b : BayId) : Statement (.qualifiedPgAssertion b) := fun _ _ _ => rfl
theorem pgDeadline (b : BayId) : Statement (.pgDeadline b) := fun _ _ _ => rfl
theorem rampDeadline (b : BayId) : Statement (.rampDeadline b) := fun _ _ _ => rfl
theorem drainExpiry (b : BayId) : Statement (.drainExpiry b) := fun _ _ _ => rfl
theorem backoffExpiry (b : BayId) : Statement (.backoffExpiry b) := fun _ _ _ => rfl
theorem staggerExpiry : Statement .staggerExpiry := fun _ _ _ => rfl
theorem shedDelayReached (z : ZoneId) : Statement (.shedDelayReached z) := fun _ _ _ => rfl
theorem shedIntervalReached (z : ZoneId) : Statement (.shedIntervalReached z) := fun _ _ _ => rfl
theorem controlPeriodEnd : Statement .controlPeriodEnd := fun _ _ _ => rfl
theorem fanGraceExpiry (f : FanId) : Statement (.fanGraceExpiry f) := fun _ _ _ => rfl
theorem tachEdge (f : FanId) : Statement (.tachEdge f) := fun _ _ _ => rfl
theorem sensorConversion (k : SensorId) (reading : Int) : Statement (.sensorConversion k reading) := by
  intro f hf h
  rcases upstream_cases f with ⟨_, _, hu⟩ | ⟨_, _, _, _, _, _, hu⟩ | hu <;>
    rcases downstream_cases f with ⟨_, _, _, _, hd⟩ | ⟨_, _, _, _, _, _, hd⟩ | hd <;> rw [hu, hd] at h <;> simp at h
theorem driveAgeExpiry (b : BayId) : Statement (.driveAgeExpiry b) := fun _ _ _ => rfl
theorem activityStretchExpiry (b : BayId) : Statement (.activityStretchExpiry b) := fun _ _ _ => rfl
theorem lightTick : Statement .lightTick := fun _ _ _ => rfl
theorem trainingWord (kind : TrainKind) (hop : BitVec 4) : Statement (.trainingWord kind hop) := fun _ _ _ => rfl
theorem trainingInterrupted : Statement .trainingInterrupted := fun _ _ _ => rfl
theorem upstreamBadFrame : Statement .upstreamBadFrame := fun _ _ _ => rfl
theorem upstreamSweep (number : Byte) (slots : Slots) : Statement (.upstreamSweep number slots) := fun _ _ _ => rfl
theorem upstreamRequest (target tag kind : Byte) (payload : List Byte) : Statement (.upstreamRequest target tag kind payload) := by
  intro f hf h
  rcases upstream_cases f with ⟨_, _, hu⟩ | ⟨_, _, _, _, hk, hp, hu⟩ | hu <;>
    rcases downstream_cases f with ⟨_, _, _, _, hd⟩ | ⟨_, _, _, _, hk', hp', hd⟩ | hd <;> rw [hu, hd] at h <;>
    simp_all [Instr.wellFormed, Frame.wf, FrameKind.lengthOk] <;> omega
theorem upstreamFill : Statement .upstreamFill := fun _ _ _ => rfl
theorem silenceTimeout : Statement .silenceTimeout := fun _ _ _ => rfl
theorem autonomyTimeout : Statement .autonomyTimeout := fun _ _ _ => rfl
theorem lostLatchSet : Statement .lostLatchSet := fun _ _ _ => rfl
theorem probeAnswer (kind : TrainKind) (hop : BitVec 4) : Statement (.probeAnswer kind hop) := fun _ _ _ => rfl
theorem probeTimeout : Statement .probeTimeout := fun _ _ _ => rfl
theorem probeRetry : Statement .probeRetry := fun _ _ _ => rfl
theorem returnWatchTimeout : Statement .returnWatchTimeout := fun _ _ _ => rfl
theorem downstreamReturn (number : Byte) (attention : Bool) (originator : Byte) (slots : Slots) : Statement (.downstreamReturn number attention originator slots) := fun _ _ _ => rfl
theorem downstreamReply (source tag status : Byte) (payload : List Byte) : Statement (.downstreamReply source tag status payload) := by
  intro f hf h
  rcases upstream_cases f with ⟨_, _, hu⟩ | ⟨_, _, _, _, hk, hp, hu⟩ | hu <;>
    rcases downstream_cases f with ⟨_, _, _, _, hd⟩ | ⟨_, _, _, _, hk', hp', hd⟩ | hd <;> rw [hu, hd] at h <;>
    simp_all [Instr.wellFormed, Frame.wf, FrameKind.lengthOk] <;> omega
theorem downstreamOtherFrame : Statement .downstreamOtherFrame := fun _ _ _ => rfl
theorem downstreamBadFrame : Statement .downstreamBadFrame := fun _ _ _ => rfl
theorem outstandingDeadline : Statement .outstandingDeadline := fun _ _ _ => rfl
theorem returnLaneFrameEnd : Statement .returnLaneFrameEnd := fun _ _ _ => rfl
theorem downstreamLaneFrameEnd : Statement .downstreamLaneFrameEnd := fun _ _ _ => rfl
theorem tableRead (tag table first count : Byte) : Statement (.tableRead tag table first count) := fun _ _ _ => rfl
theorem tableWrite (tag table first count : Byte) (entries : List Byte) : Statement (.tableWrite tag table first count entries) := by
  intro f hf h
  rcases upstream_cases f with ⟨_, _, hu⟩ | ⟨_, _, _, _, _, _, hu⟩ | hu <;>
    rcases downstream_cases f with ⟨_, _, _, _, hd⟩ | ⟨_, _, _, _, _, _, hd⟩ | hd <;> rw [hu, hd] at h <;> simp at h
theorem powerOn (tag bay : Byte) : Statement (.powerOn tag bay) := fun _ _ _ => rfl
theorem powerOff (tag bay : Byte) : Statement (.powerOff tag bay) := fun _ _ _ => rfl
theorem clearLockout (tag bay : Byte) : Statement (.clearLockout tag bay) := fun _ _ _ => rfl
theorem identifyOn (tag bay : Byte) : Statement (.identifyOn tag bay) := fun _ _ _ => rfl
theorem identifyOff (tag bay : Byte) : Statement (.identifyOff tag bay) := fun _ _ _ => rfl
theorem markSet (tag bay mark : Byte) : Statement (.markSet tag bay mark) := fun _ _ _ => rfl
theorem markClear (tag bay mark : Byte) : Statement (.markClear tag bay mark) := fun _ _ _ => rfl
theorem temperatureReport (toAll : Bool) (tag : Byte) (pairs : List (Byte × Byte)) : Statement (.temperatureReport toAll tag pairs) := by
  intro f hf h
  rcases upstream_cases f with ⟨_, _, hu⟩ | ⟨_, _, _, _, _, _, hu⟩ | hu <;>
    rcases downstream_cases f with ⟨_, _, _, _, hd⟩ | ⟨_, _, _, _, _, _, hd⟩ | hd <;> rw [hu, hd] at h <;> simp at h
theorem statusReadSummary (tag : Byte) : Statement (.statusReadSummary tag) := fun _ _ _ => rfl
theorem statusReadBays (tag first count : Byte) : Statement (.statusReadBays tag first count) := fun _ _ _ => rfl
theorem statusReadSources (tag : Byte) : Statement (.statusReadSources tag) := fun _ _ _ => rfl
theorem statusReadFans (tag : Byte) : Statement (.statusReadFans tag) := fun _ _ _ => rfl
theorem statusReadZones (tag : Byte) : Statement (.statusReadZones tag) := fun _ _ _ => rfl
theorem statusReadLines (tag : Byte) : Statement (.statusReadLines tag) := fun _ _ _ => rfl
theorem attentionClear (tag : Byte) (kinds : BitVec 16) : Statement (.attentionClear tag kinds) := fun _ _ _ => rfl
theorem lineSetManual (tag : Byte) (baySet : BitVec 32) (lines level : Byte) : Statement (.lineSetManual tag baySet lines level) := fun _ _ _ => rfl
theorem lineSetEngine (tag : Byte) (baySet : BitVec 32) (lines level : Byte) : Statement (.lineSetEngine tag baySet lines level) := fun _ _ _ => rfl
theorem restartImmediate (tag : Byte) : Statement (.restartImmediate tag) := fun _ _ _ => rfl
theorem restartQuiesced (tag : Byte) : Statement (.restartQuiesced tag) := fun _ _ _ => rfl
theorem quiesceLimit : Statement .quiesceLimit := fun _ _ _ => rfl
theorem configSave (tag : Byte) : Statement (.configSave tag) := fun _ _ _ => rfl
theorem unknownKind (tag kind : Byte) : Statement (.unknownKind tag kind) := by
  intro f hf h
  rcases upstream_cases f with ⟨_, _, hu⟩ | ⟨_, _, _, _, _, _, hu⟩ | hu <;>
    rcases downstream_cases f with ⟨_, _, _, _, hd⟩ | ⟨_, _, _, _, _, _, hd⟩ | hd <;> rw [hu, hd] at h <;> simp at h
theorem saveWriteAcknowledged : Statement .saveWriteAcknowledged := fun _ _ _ => rfl
theorem saveFailed : Statement .saveFailed := fun _ _ _ => rfl
theorem rstnPulseDuringPowerOnLoad : Statement .rstnPulseDuringPowerOnLoad := fun _ _ _ => rfl
theorem qualifiedFltDeassertion (b : BayId) : Statement (.qualifiedFltDeassertion b) := fun _ _ _ => rfl
theorem pwmCycleEnd (f : FanId) : Statement (.pwmCycleEnd f) := fun _ _ _ => rfl

end Sys2Proof.Laws.WellFormed
end

