-- ==== Sys2Proof/Laws/Resets.lean ====
section
/-! SUPPORT. Field lemmas of the operations that rebuild whole vectors (the controller reset, the start of the part, an applied sweep, a LINE SET). They are proved by
unfolding first: asked for by `rfl` alone, Lean may compare the vectors entry by entry. -/

namespace Sys2Proof.Machine

variable (s : State)


@[simp] theorem State.applySweep_phase (slots : Slots) : (s.applySweep slots).phase = s.phase := by unfold State.applySweep; rfl
@[simp] theorem State.applySweep_rstn (slots : Slots) : (s.applySweep slots).rstn = s.rstn := by unfold State.applySweep; rfl
@[simp] theorem State.applySweep_tb (slots : Slots) : (s.applySweep slots).tb = s.tb := by unfold State.applySweep; rfl
@[simp] theorem State.applySweep_tables (slots : Slots) : (s.applySweep slots).tables = s.tables := by unfold State.applySweep; rfl
@[simp] theorem State.applySweep_bays (slots : Slots) : (s.applySweep slots).bays = s.bays := by unfold State.applySweep; rfl
@[simp] theorem State.applySweep_inputs (slots : Slots) : (s.applySweep slots).inputs = s.inputs := by unfold State.applySweep; rfl
@[simp] theorem State.applySweep_psq (slots : Slots) : (s.applySweep slots).psq = s.psq := by unfold State.applySweep; rfl
@[simp] theorem State.applySweep_sensors (slots : Slots) : (s.applySweep slots).sensors = s.sensors := by unfold State.applySweep; rfl
@[simp] theorem State.applySweep_therm (slots : Slots) : (s.applySweep slots).therm = s.therm := by unfold State.applySweep; rfl
@[simp] theorem State.applySweep_converted (slots : Slots) : (s.applySweep slots).converted = s.converted := by unfold State.applySweep; rfl
@[simp] theorem State.applySweep_drives (slots : Slots) : (s.applySweep slots).drives = s.drives := by unfold State.applySweep; rfl
@[simp] theorem State.applySweep_zones (slots : Slots) : (s.applySweep slots).zones = s.zones := by unfold State.applySweep; rfl
@[simp] theorem State.applySweep_fans (slots : Slots) : (s.applySweep slots).fans = s.fans := by unfold State.applySweep; rfl
@[simp] theorem State.applySweep_smap (slots : Slots) : (s.applySweep slots).smap = Vector.ofFn fun b => (s.smap[b]).sweep s.tables.bayMap[b] slots s.now := by unfold State.applySweep; rfl
@[simp] theorem State.applySweep_len (slots : Slots) : (s.applySweep slots).len = { s.len with linkLost := false } := by unfold State.applySweep; rfl
@[simp] theorem State.applySweep_liu (slots : Slots) : (s.applySweep slots).liu = s.liu := by unfold State.applySweep; rfl
@[simp] theorem State.applySweep_mru (slots : Slots) : (s.applySweep slots).mru = s.mru := by unfold State.applySweep; rfl
@[simp] theorem State.applySweep_cmp (slots : Slots) : (s.applySweep slots).cmp = s.cmp := by unfold State.applySweep; rfl
@[simp] theorem State.applySweep_freeCount (slots : Slots) : (s.applySweep slots).freeCount = s.freeCount := by unfold State.applySweep; rfl
@[simp] theorem State.applySweep_pending (slots : Slots) : (s.applySweep slots).pending = s.pending := by unfold State.applySweep; rfl

@[simp] theorem State.setLines_phase (bays : BitVec 24) (a b : Bool) (m : Option Bool) : (s.setLines bays a b m).phase = s.phase := by unfold State.setLines; rfl
@[simp] theorem State.setLines_rstn (bays : BitVec 24) (a b : Bool) (m : Option Bool) : (s.setLines bays a b m).rstn = s.rstn := by unfold State.setLines; rfl
@[simp] theorem State.setLines_tb (bays : BitVec 24) (a b : Bool) (m : Option Bool) : (s.setLines bays a b m).tb = s.tb := by unfold State.setLines; rfl
@[simp] theorem State.setLines_tables (bays : BitVec 24) (a b : Bool) (m : Option Bool) : (s.setLines bays a b m).tables = s.tables := by unfold State.setLines; rfl
@[simp] theorem State.setLines_bays (bays : BitVec 24) (a b : Bool) (m : Option Bool) : (s.setLines bays a b m).bays = s.bays := by unfold State.setLines; rfl
@[simp] theorem State.setLines_inputs (bays : BitVec 24) (a b : Bool) (m : Option Bool) : (s.setLines bays a b m).inputs = s.inputs := by unfold State.setLines; rfl
@[simp] theorem State.setLines_psq (bays : BitVec 24) (a b : Bool) (m : Option Bool) : (s.setLines bays a b m).psq = s.psq := by unfold State.setLines; rfl
@[simp] theorem State.setLines_sensors (bays : BitVec 24) (a b : Bool) (m : Option Bool) : (s.setLines bays a b m).sensors = s.sensors := by unfold State.setLines; rfl
@[simp] theorem State.setLines_therm (bays : BitVec 24) (a b : Bool) (m : Option Bool) : (s.setLines bays a b m).therm = s.therm := by unfold State.setLines; rfl
@[simp] theorem State.setLines_converted (bays : BitVec 24) (a b : Bool) (m : Option Bool) : (s.setLines bays a b m).converted = s.converted := by unfold State.setLines; rfl
@[simp] theorem State.setLines_drives (bays : BitVec 24) (a b : Bool) (m : Option Bool) : (s.setLines bays a b m).drives = s.drives := by unfold State.setLines; rfl
@[simp] theorem State.setLines_zones (bays : BitVec 24) (a b : Bool) (m : Option Bool) : (s.setLines bays a b m).zones = s.zones := by unfold State.setLines; rfl
@[simp] theorem State.setLines_fans (bays : BitVec 24) (a b : Bool) (m : Option Bool) : (s.setLines bays a b m).fans = s.fans := by unfold State.setLines; rfl
@[simp] theorem State.setLines_smap (bays : BitVec 24) (a b : Bool) (m : Option Bool) : (s.setLines bays a b m).smap = s.smap := by unfold State.setLines; rfl
@[simp] theorem State.setLines_liu (bays : BitVec 24) (a b : Bool) (m : Option Bool) : (s.setLines bays a b m).liu = s.liu := by unfold State.setLines; rfl
@[simp] theorem State.setLines_mru (bays : BitVec 24) (a b : Bool) (m : Option Bool) : (s.setLines bays a b m).mru = s.mru := by unfold State.setLines; rfl
@[simp] theorem State.setLines_cmp (bays : BitVec 24) (a b : Bool) (m : Option Bool) : (s.setLines bays a b m).cmp = s.cmp := by unfold State.setLines; rfl
@[simp] theorem State.setLines_freeCount (bays : BitVec 24) (a b : Bool) (m : Option Bool) : (s.setLines bays a b m).freeCount = s.freeCount := by unfold State.setLines; rfl
@[simp] theorem State.setLines_pending (bays : BitVec 24) (a b : Bool) (m : Option Bool) : (s.setLines bays a b m).pending = s.pending := by unfold State.setLines; rfl

@[simp] theorem State.controllerReset_phase (byPin : Bool) : (s.controllerReset byPin).phase = if byPin then .resetHold else .resetLoad := by unfold State.controllerReset; rfl
@[simp] theorem State.controllerReset_rstn (byPin : Bool) : (s.controllerReset byPin).rstn = if byPin then false else s.rstn := by unfold State.controllerReset; rfl
@[simp] theorem State.controllerReset_tb (byPin : Bool) : (s.controllerReset byPin).tb = { s.tb with nextLight := none, nextPeriod := none } := by unfold State.controllerReset; rfl
@[simp] theorem State.controllerReset_tables (byPin : Bool) : (s.controllerReset byPin).tables = s.tables := by unfold State.controllerReset; rfl
@[simp] theorem State.controllerReset_bays (byPin : Bool) : (s.controllerReset byPin).bays = Vector.ofFn fun b => (s.bays[b]).onReset := by unfold State.controllerReset; rfl
@[simp] theorem State.controllerReset_inputs (byPin : Bool) : (s.controllerReset byPin).inputs = Vector.ofFn fun b => { s.inputs[b] with settleStart := none } := by unfold State.controllerReset; rfl
@[simp] theorem State.controllerReset_sensors (byPin : Bool) : (s.controllerReset byPin).sensors = s.sensors := by unfold State.controllerReset; rfl
@[simp] theorem State.controllerReset_therm (byPin : Bool) : (s.controllerReset byPin).therm = s.therm := by unfold State.controllerReset; rfl
@[simp] theorem State.controllerReset_converted (byPin : Bool) : (s.controllerReset byPin).converted = 0 := by unfold State.controllerReset; rfl
@[simp] theorem State.controllerReset_zones (byPin : Bool) : (s.controllerReset byPin).zones = Vector.ofFn fun z => { s.zones[z] with failedFans := 0 } := by unfold State.controllerReset; rfl
@[simp] theorem State.controllerReset_fans (byPin : Bool) : (s.controllerReset byPin).fans = Vector.ofFn fun f => (s.fans[f]).onReset := by unfold State.controllerReset; rfl
@[simp] theorem State.controllerReset_smap (byPin : Bool) : (s.controllerReset byPin).smap = Vector.replicate 24 Applied.initial := by unfold State.controllerReset; rfl
@[simp] theorem State.controllerReset_liu (byPin : Bool) : (s.controllerReset byPin).liu = Liu.initial := by unfold State.controllerReset; rfl
@[simp] theorem State.controllerReset_mru (byPin : Bool) : (s.controllerReset byPin).mru = { state := .idle, attention := attentionRaise 0 .restarted, saveInProgress := false } := by unfold State.controllerReset; rfl
@[simp] theorem State.controllerReset_cmp (byPin : Bool) : (s.controllerReset byPin).cmp = { s.cmp with state := .loading, mem := s.cmp.landSent, waitStart := if byPin then none else some s.now, readStart := none, answersFrom := s.cmp.answersAfterReset s.freeCount } := by unfold State.controllerReset; rfl
@[simp] theorem State.controllerReset_freeCount (byPin : Bool) : (s.controllerReset byPin).freeCount = s.freeCount + 1 := by unfold State.controllerReset; rfl
@[simp] theorem State.controllerReset_pending (byPin : Bool) : (s.controllerReset byPin).pending = s.pending := by unfold State.controllerReset; rfl

@[simp] theorem State.startPart_phase : (s.startPart).phase = .running := by unfold State.startPart; rfl
@[simp] theorem State.startPart_rstn : (s.startPart).rstn = s.rstn := by unfold State.startPart; rfl
@[simp] theorem State.startPart_tb : (s.startPart).tb = { s.tb.align with startTime := some s.now } := by unfold State.startPart; rfl
@[simp] theorem State.startPart_tables : (s.startPart).tables = s.tables := by unfold State.startPart; rfl
@[simp] theorem State.startPart_psq : (s.startPart).psq = s.psq := by unfold State.startPart; rfl
@[simp] theorem State.startPart_sensors : (s.startPart).sensors = s.sensors := by unfold State.startPart; rfl
@[simp] theorem State.startPart_therm : (s.startPart).therm = s.therm := by unfold State.startPart; rfl
@[simp] theorem State.startPart_converted : (s.startPart).converted = 0 := by unfold State.startPart; rfl
@[simp] theorem State.startPart_drives : (s.startPart).drives = s.drives := by unfold State.startPart; rfl
@[simp] theorem State.startPart_zones : (s.startPart).zones = s.zones := by unfold State.startPart; rfl
@[simp] theorem State.startPart_smap : (s.startPart).smap = s.smap := by unfold State.startPart; rfl
@[simp] theorem State.startPart_len : (s.startPart).len = s.len.start := by unfold State.startPart; rfl
@[simp] theorem State.startPart_liu : (s.startPart).liu = s.liu.enterListen s.now := by unfold State.startPart; rfl
@[simp] theorem State.startPart_mru : (s.startPart).mru = s.mru := by unfold State.startPart; rfl
@[simp] theorem State.startPart_cmp : (s.startPart).cmp = s.cmp := by unfold State.startPart; rfl
@[simp] theorem State.startPart_freeCount : (s.startPart).freeCount = s.freeCount := by unfold State.startPart; rfl
@[simp] theorem State.startPart_pending : (s.startPart).pending = s.pending := by unfold State.startPart; rfl

end Sys2Proof.Machine
end

