-- ==== Sys2Proof/Tests/Slice0.lean ====
section
/-! SUPPORT. Tests: the checks of WellFormed, worked values of the spec, and, for every statement with hypotheses, a state and operands that meet them, clause by
clause. The expected values are the spec's or worked by hand from it. -/

namespace Sys2Proof.Tests

open Sys2Proof Sys2Proof.Machine Sys2Proof.Safety

/-! ### WellFormed refuses -/

/-- R55: the converter's range ends at 191.5 °C. -/
theorem test_reading_above_range : (Instr.sensorConversion 0 384).wellFormed = false ∧ (Instr.sensorConversion 0 383).wellFormed = true := by decide
/-- R131: a REQUEST carries at most 243 payload bytes, three of which are its target, tag and kind. -/
theorem test_request_too_long : (Instr.upstreamRequest 0 0 0x11 (List.replicate 241 0)).wellFormed = false := by decide +kernel
theorem test_reply_too_long : (Instr.downstreamReply 0 0 0 (List.replicate 241 0)).wellFormed = false := by decide +kernel
theorem test_write_too_long : (Instr.tableWrite 0 0 0 1 (List.replicate 238 0)).wellFormed = false := by decide +kernel
theorem test_report_too_long : (Instr.temperatureReport true 0 (List.replicate 120 (0, 0))).wellFormed = false := by decide
theorem test_defined_kind_is_not_unknown : (Instr.unknownKind 0 0x20).wellFormed = false ∧ (Instr.unknownKind 0 0x22).wellFormed = true := by decide
/-- The table gives its rows no bits, so no word spells a command. -/
theorem test_no_word_spells_a_command : decodeTableWord 16 0x3CD2 = none := by decide

/-! ### Values the spec works out -/

/-- R132. -/
theorem test_check_of_nine_bytes : crc16 [0x31, 0x32, 0x33, 0x34, 0x35, 0x36, 0x37, 0x38, 0x39] = 0x29B1 := by decide +kernel
/-- R195, written out bit by bit: A and B training words, a header of A whose hop halves disagree, the start word, and data words. -/
theorem test_words_read :
    classifyWord 0b0011110011010010 = .training .a 2 ∧ classifyWord 0b0011110111110000 = .training .b 0 ∧
    classifyWord 0b0011110000000000 = .data 0 ∧ classifyWord 0b0111111010000001 = .start ∧
    classifyWord 0b0000000001111110 = .data 0x7E ∧ classifyWord 0b1111111101000001 = .data 0x41 := by decide
/-- R74: on the default curve 40.0 °C gives 550 and 60.0 °C gives 1000. -/
theorem test_default_curve : curveValue defaultCurve.points 80 = 550 ∧ curveValue defaultCurve.points 120 = 1000 := by decide
/-- R73: a temperature as two bytes is read back with its sign. -/
theorem test_signed_bytes : s16 (-80) = [0xFF, 0xB0] ∧ sbe16 0xFF 0xB0 = -80 ∧ temperatureBytes none = [0x7F, 0xFF] := by decide
/-- R88: 20 pulses in a second at 2 pulses per revolution are 600 rpm; the greatest count is taken as 65534. -/
theorem test_window_rpm : windowRpm 20 2 = 600 ∧ windowRpm 65535 1 = 65534 := by decide
/-- R86: 25.0 kHz gives N = 1000, and 500 per mille of it 500. -/
theorem test_pwm_counts : pwmDivisor 250 = 1000 ∧ pwmCompare 500 1000 = 500 := by decide
/-- R31: a bay of priority 2 stands behind the bays of priority 2 and before those of 3. -/
theorem test_queue_place :
    (insertEntry ⟨5, 2⟩ [⟨0, 1⟩, ⟨1, 2⟩, ⟨2, 3⟩]).map (·.bay) = [0, 1, 5, 2] := by decide
/-- A read after a write, a blank byte unlisted, and the form kept. -/
theorem test_memory :
    Memory.read (Memory.write [] 7 0x5A) 7 = 0x5A ∧ Memory.write (Memory.write [] 7 0x5A) 7 0xFF = [] ∧
    Memory.wf (Memory.writeBytes [] 3 [1, 0xFF, 2]) = true := by decide

/-- R182: device address 0x56 with the write direction is 0xAC, with the read direction 0xAD; of two bytes read the first is acknowledged. -/
theorem test_transfers :
    writeTransfer 0x0102 [0x5A] = [.start, .sent 0xAC, .sent 0x01, .sent 0x02, .sent 0x5A] ∧
    readTransfer [(2, 0x31)] 2 2 =
      [.start, .sent 0xAC, .sent 0x00, .sent 0x02, .start, .sent 0xAD, .read 0x31 true, .read 0xFF false] := by decide

/-! ### States for the witnesses -/

/-- A running part at the end of its control period, its link ALIGNED at position 0, its sensors at 30.0 °C, every bay EMPTY, its tables the defaults. -/
def up : State :=
  { State.reset with
    phase := .running
    rstn := true
    tb := { now := 100000, startTime := some 0, nextLight := some 100000, nextPeriod := some 100000 }
    liu := { Liu.initial with link := .aligned, position := some 0, silenceStart := some 99950, upLane := .fill, frameTaken := true }
    cmp := { Cmp.initial with state := .idle }
    sensors := Vector.replicate 4 { state := .ok, held := some 60 }
    therm := Vector.replicate 4 60
    converted := 4 }

/-- `up` with B0's record changed. -/
def bay (f : BayRecord → BayRecord) : State := up.setBay 0 (f up.bays[0])

/-- `up` with B0 in this state. -/
def inState (x : BayState) : State := bay fun r => { r with state := x }

/-- `up` with the LIU changed. -/
def link (f : Liu → Liu) : State := { up with liu := f up.liu }

/-- `up` with the MRU changed. -/
def mru (f : Mru → Mru) : State := { up with mru := f up.mru }

/-- B0 POWERED at 80 and 100 tenths of an ampere, its charges in the sums, its drive source VALID. -/
def powered : State :=
  { (bay fun r => { r with state := .powered, charge12 := 80, charge5 := 100, steady12 := 80 }) with
    psq := { Psq.initial with committed12 := 80, committed5 := 100, branch := #v[80, 0, 0, 0, 0, 0] }
    drives := up.drives.set 0 { state := .valid, value := some 40, reportTime := some 70000 } }

/-- B0 RAMPING at its inrush charge, its deadlines now. -/
def ramping : State :=
  { (bay fun r =>
      { r with
        state := .ramping, charge12 := 200, charge5 := 100, steady12 := 80, rampDeadline := some 100000, pgDeadline := some 100000 }) with
    psq := { Psq.initial with committed12 := 200, committed5 := 100, branch := #v[200, 0, 0, 0, 0, 0], rampingCount := 1 } }

/-- B0 QUEUED, the stagger time just over. -/
def queued : State :=
  { inState .queued with psq := { Psq.initial with queue := [⟨0, 0⟩], stagger := some 99000 } }

/-- The PG level of B0 asserted. -/
def pgOn (s : State) : State := s.setInput 0 { s.inputs[0] with pg := true, pgPin := true }

/-- The next state, where there is one. -/
def after (c : Instr) (s : State) : State :=
  match exec c s with
  | .next t => t
  | _ => s

/-! ### Witnesses of the statements' hypotheses -/

theorem test_up_power_sound : PowerSound up := ⟨by decide, by decide, by decide, by decide⟩
theorem test_up_is_sound : Sound up :=
  ⟨test_up_power_sound, by decide, by decide, by decide, by decide, by decide, by decide, by decide, by decide⟩
theorem test_powered_power_sound : PowerSound powered := ⟨by decide, by decide, by decide, by decide⟩
theorem test_ramping_power_sound : PowerSound ramping := ⟨by decide, by decide, by decide, by decide⟩
theorem test_witness_StepKeeps : Sound up ∧ ∃ t, step up = .next t := ⟨test_up_is_sound, _, rfl⟩

/-- IdleStepIsOneTick: before the start of the part, and in a running part whose period ends at the tick with two conversions missing. -/
theorem test_witness_IdleStep :
    State.reset.pending = [] ∧ State.reset.phase = .powerOnHold ∧ up.pending = [] ∧ up.phase = .running ∧
    Passed ({ up with converted := 2 } : State).tb.nextPeriod 0 (up.tb.now + 1) :=
  ⟨by decide, by decide, by decide, by decide, 100000, rfl, by decide⟩
/-- IdleStepIsOneTick: a bay's PG deadline, its ramp deadline and its removal at one tick; and a power-on load whose memory does not acknowledge. -/
theorem test_witness_IdleStep_faults :
    let s := ramping.setInput 0 { ramping.inputs[(0 : BayId)] with removalCount := 19 }
    let l : State := { State.reset with phase := .powerOnLoad, cmp := { Cmp.initial with waitStart := some 0, answersFrom := none } }
    Instr.pgDeadline 0 ∈ s.tick.pending ∧ Instr.rampDeadline 0 ∈ s.tick.pending ∧ Instr.qualifiedRemoval 0 ∈ s.tick.pending ∧
    isSaving l.cmp.state = false ∧ ({ l with tb := { l.tb with now := 9 } } : State).tick.pending = [.loadCompletion true] := by decide +kernel
/-- IdleStepIsOneTick: a level qualified at the tick of both deadlines stands before them (R1, R14), and a bounce before the debounce that ends at its tick (R2). -/
theorem test_witness_IdleStep_orders :
    let s := ramping.setInput 0 { ramping.inputs[(0 : BayId)] with pgPin := true, pgLast := some true }
    let b := (inState .settling).setInput 0 { BayInput.initial with settleStart := some 99000 }
    (s.tick.pending.filter fun c => c = .qualifiedPgAssertion 0 ∨ c = .pgDeadline 0 ∨ c = .rampDeadline 0) =
      [.qualifiedPgAssertion 0, .pgDeadline 0, .rampDeadline 0] ∧
    (b.tick.pending.filter fun c => c = .settlingBounce 0 ∨ c = .insertionDebounceExpiry 0) =
      [.settlingBounce 0, .insertionDebounceExpiry 0] := by decide +kernel
/-- R1, R15: FLT that stands asserted at a RAMPING bay is taken as a fault, and the deasserted sample of that tick stays. -/
theorem test_standing_fault_keeps_the_sample :
    let s := ramping.setInput 0 { ramping.inputs[(0 : BayId)] with flt := true, fltLast := some false }
    (after (.qualifiedFltAssertion 0) s).bays[(0 : BayId)].state = .powerFault ∧
    (after (.qualifiedFltAssertion 0) s).inputs[(0 : BayId)].fltLast = some false := by decide
/-- R55: the tick that ends a period first takes the conversions still missing, S2 before S3. -/
theorem test_tick_completes_the_period :
    (({ up with converted := 2 } : State).tick.pending.filter fun c =>
      c = .sensorConversion 2 60 ∨ c = .sensorConversion 3 60 ∨ c = .controlPeriodEnd) =
      [.sensorConversion 2 60, .sensorConversion 3 60, .controlPeriodEnd] := by decide +kernel

theorem test_witness_phases :
    ({ up with phase := .powerOnHold } : State).phase = .powerOnHold ∧ ({ up with phase := .resetHold } : State).phase = .resetHold ∧
    ({ up with phase := .powerOnLoad } : State).phase = .powerOnLoad ∧ ({ up with phase := .resetLoad } : State).phase = .resetLoad ∧
    up.phase = .running := by decide

/-- `up` with a save of the marker erase alone, its wait begun then. -/
def saving (waitStart : Option Nat) : State :=
  { up with
    cmp := { up.cmp with state := .saving [⟨.erase, 0, [0, 0]⟩], waitStart := waitStart }
    mru := { up.mru with saveInProgress := true } }

/-- ControllerResetInEveryBlock: no save, a save whose erase is not sent, and one whose erase is. -/
theorem test_witness_ControllerReset :
    isSaving up.cmp.state = false ∧ (saving none).cmp.waitStart = none ∧
    (saving (some 99999)).cmp.state = .saving (⟨.erase, 0, [0, 0]⟩ :: []) ∧ (saving (some 99999)).cmp.waitStart ≠ none ∧
    Memory.wf up.cmp.mem = true ∧ (0 : Nat) < (⟨.erase, 0, [0, 0]⟩ : SaveWrite).bytes.length := by decide
/-- R193: a controller reset taken before the erase is sent leaves the memory as it was; one taken afterwards finds the erase landed. -/
theorem test_reset_before_and_after_the_erase :
    (after .controllerReset (saving none)).cmp.mem = [] ∧ Memory.read (after .controllerReset (saving (some 99999))).cmp.mem 1 = 0 := by decide
/-- R182, R192: the erase is sent at the tick; an acknowledge falls due 5 ms after it, and is awaited for 10 ms of a memory that gives none; a line held low for 25 ms ends the save
as well. -/
theorem test_save_timers :
    let deaf (t : Nat) : State := { saving (some t) with cmp := { (saving (some t)).cmp with answersFrom := none } }
    (saving none).tick.cmp.waitStart = some 100001 ∧ Instr.saveWriteAcknowledged ∈ (saving (some 99996)).tick.pending ∧
    Instr.saveWriteAcknowledged ∉ (saving (some 99997)).tick.pending ∧ Instr.saveFailed ∉ (saving (some 99991)).tick.pending ∧
    Instr.saveFailed ∈ (deaf 99991).tick.pending ∧ Instr.saveFailed ∉ (deaf 99992).tick.pending ∧
    Instr.saveFailed ∈ ({ saving (some 100000) with cmp := { (saving (some 100000)).cmp with heldLow := some 99976 } } : State).tick.pending := by
  decide +kernel
/-- R182, R193: on a bus held low the erase is not sent, an acknowledge changes nothing, and a reset leaves the memory as it was. -/
theorem test_stuck_bus_sends_no_write :
    let held (t : Option Nat) : State := { saving t with cmp := { (saving t).cmp with heldLow := some 99999 } }
    (held none).tick.cmp = (held none).cmp ∧ (held none).cmp.tickTransfers 100001 = [] ∧
    (after .controllerReset (held none).tick).cmp.mem = [] ∧ after .saveWriteAcknowledged (held (some 99999)) = held (some 99999) := by decide +kernel
/-- R182, R184, R187: a load that begins at 0 with a memory in a write cycle until 4 asks it at 3, and reads it at 4, where the empty memory's marker ends the reading, so that the load is
over 5 ms later. -/
theorem test_load_waits_for_a_late_memory :
    let c : Cmp := { Cmp.initial.beginLoad 0 with answersFrom := some 4 }
    c.tickTransfers 3 = [[.start, .sent 0xAC]] ∧ c.atTick 3 = c ∧ (c.atTick 4).readStart = some 4 ∧ (c.atTick 4).memoryFails 11 = false ∧
    (c.atTick 4).readEnds 8 = false ∧ (c.atTick 4).readEnds 9 = true ∧
    c.tickTransfers 4 = [[.start, .sent 0xAC],
      [.start, .sent 0xAC, .sent 0, .sent 0, .start, .sent 0xAD, .read 0xFF true, .read 0xFF false]] := by decide

/-- R187: a load whose image is read whole is over 100 ms after it began. -/
theorem test_load_is_over_in_100_ms :
    let mem := Memory.writeBytes [] 0 [0xC3, 0x5A, 1, 0, 0]
    let s (now : Nat) : State :=
      { State.reset with phase := .powerOnLoad, tb := { State.reset.tb with now := now }, cmp := { Cmp.initial.beginLoad 0 with mem := mem, readStart := some 4 } }
    (s 98).tick.pending = [] ∧ (s 99).tick.pending = [.loadCompletion false] := by decide +kernel

/-- PowerOnLoadStartsThePart: an EMPTY bay whose pin reads seated. -/
theorem test_witness_PowerOnLoad :
    let s : State := { up with phase := .powerOnLoad }.setInput 0 { BayInput.initial with presPin := true }
    s.phase = .powerOnLoad ∧ s.bays[(0 : BayId)].state = .empty ∧ s.inputs[(0 : BayId)].presPin = true := by decide

/-- RestartCompletionReenqueues: no bay QUEUED, bays of each kind it names, and a frequency that the load leaves and one that it changes. -/
theorem test_witness_RestartCompletion :
    (∀ x ∈ [BayState.presentOff, .parked, .powerFault, .powered, .settling],
      let s : State := { inState x with phase := .resetLoad }
      s.phase = .resetLoad ∧ (∀ b : BayId, s.bays[b].state ≠ .queued) ∧ s.bays[(0 : BayId)].state = x) ∧
    (up.fans[(0 : FanId)]).state = .starting ∧ up.psq.queue = [] ∧
    (loadTables false up.cmp.mem).1.fans[(0 : FanId)].pwmFrequency = up.tables.fans[(0 : FanId)].pwmFrequency ∧
    (loadTables false up.cmp.mem).1.fans[(0 : FanId)].pwmFrequency ≠ 100 := by decide

theorem test_witness_Insertion :
    State.reset.sampling = false ∧ up.sampling = true ∧ up.bays[(0 : BayId)].state = .empty ∧ (inState .settling).bays[(0 : BayId)].state = .settling := by decide

/-- DebounceExpiryFollowsPolicy: the debounce of 250 ms just over, with both policies, and 1 ms short of it. -/
theorem test_witness_DebounceExpiry :
    let s := (inState .settling).setInput 0 { BayInput.initial with settleStart := some 99750 }
    let m : State :=
      { s with
        tables := { s.tables with baySettings := s.tables.baySettings.set 0 { s.tables.baySettings[(0 : BayId)] with policy := .manual } } }
    s.phase = .running ∧ s.bays[(0 : BayId)].state = .settling ∧ s.inputs[(0 : BayId)].settleStart = some 99750 ∧
    99750 + s.tables.limits.insertionDebounce * 10 = s.tb.now ∧ s.tables.baySettings[(0 : BayId)].policy = .auto ∧
    m.tables.baySettings[(0 : BayId)].policy = .manual ∧ s.tb.now < 99751 + s.tables.limits.insertionDebounce * 10 := by decide

theorem test_witness_Removal :
    ∀ s ∈ [powered, ramping, queued, inState .parked],
      s.sampling = true ∧ s.bays[(0 : BayId)].state ≠ .empty ∧ s.bays[(0 : BayId)].state ≠ .settling := by decide

/-- FaultEntersPowerFaultOrLocksOut: each of the three events, PG supervised in both ways, below the retry limit and at it. -/
theorem test_witness_Fault :
    powered.bays[(0 : BayId)].state.live = true ∧ ramping.bays[(0 : BayId)].state.live = true ∧ powered.sampling = true ∧
    powered.bays[(0 : BayId)].state = .powered ∧
    (ramping.setBay 0 { ramping.bays[(0 : BayId)] with pgDeadline := none }).bays[(0 : BayId)].pgDeadline = none ∧
    ramping.inputs[(0 : BayId)].pg = false ∧ ramping.bays[(0 : BayId)].pgDeadline = some ramping.tb.now ∧
    powered.bays[(0 : BayId)].retryCount < powered.tables.limits.retryLimit ∧
    ¬ (powered.setBay 0 { powered.bays[(0 : BayId)] with retryCount := 2 }).bays[(0 : BayId)].retryCount <
      powered.tables.limits.retryLimit := by decide

theorem test_witness_RampEnd :
    let s := pgOn ramping
    s.sampling = true ∧ s.inputs[(0 : BayId)].pg = true ∧ s.bays[(0 : BayId)].state = .ramping ∧
    s.bays[(0 : BayId)].rampDeadline = some s.tb.now ∧ s.bays[(0 : BayId)].pgDeadline = some s.tb.now ∧
    s.inputs[(0 : BayId)].flt = false ∧ ramping.inputs[(0 : BayId)].pg = false ∧ (∃ d, s.bays[(0 : BayId)].rampDeadline = some d) ∧
    (s.setInput 0 { s.inputs[(0 : BayId)] with flt := true }).inputs[(0 : BayId)].flt = true ∧ s.tb.now < 100001 :=
  ⟨by decide, by decide, by decide, by decide, by decide, by decide, by decide, ⟨_, rfl⟩, by decide, by decide⟩

/-- QualifiedLevelsAloneOutsidePower: off power; RAMPING with a PG deadline, before its ramp deadline, and with FLT asserted; POWERED; and no sampling. -/
theorem test_witness_QualifiedLevels :
    up.sampling = true ∧ up.bays[(0 : BayId)].state.live = false ∧ ramping.bays[(0 : BayId)].pgDeadline ≠ none ∧
    (ramping.setBay 0 { ramping.bays[(0 : BayId)] with rampDeadline := some 100001 }).bays[(0 : BayId)].rampDeadline = some 100001 ∧
    (ramping.setInput 0 { ramping.inputs[(0 : BayId)] with flt := true }).inputs[(0 : BayId)].flt = true ∧
    powered.bays[(0 : BayId)].state = .powered ∧ State.reset.sampling = false := by decide

/-- DrainAndBackoffExpiryLeaveTheWait: shed-parked out of HOLD, shed-parked in HOLD, and not shed-parked; and a backoff just over. -/
theorem test_witness_DrainAndBackoff :
    let s (flag : Bool) := bay fun r => { r with state := .removing, drainDeadline := some 100000, shedParked := flag }
    let h : State := { s true with zones := up.zones.set 0 { Zone.initial with hold := true } }
    let f := bay fun r => { r with state := .powerFault, backoffDeadline := some 100000 }
    100000 ≤ up.tb.now ∧ (s true).bays[(0 : BayId)].state = .removing ∧ (s true).bays[(0 : BayId)].drainDeadline = some 100000 ∧
    (s true).bays[(0 : BayId)].shedParked = true ∧ (s true).zones[(s true).tables.baySettings[(0 : BayId)].zone].hold = false ∧
    (s false).bays[(0 : BayId)].shedParked = false ∧ h.zones[h.tables.baySettings[(0 : BayId)].zone].hold = true ∧
    f.phase = .running ∧ f.bays[(0 : BayId)].state = .powerFault ∧ f.bays[(0 : BayId)].backoffDeadline = some 100000 := by decide

theorem test_witness_Serves : Serves up ∧ ServesReads (mru fun m => { m with saveInProgress := true }) := by decide

theorem test_witness_marks : ((0 : Byte) = 0 ∨ 4 ≤ (0 : Byte).toNat) ∧ ((4 : Byte) = 0 ∨ 4 ≤ (4 : Byte).toNat) := by decide

theorem test_witness_JoiningBay : ([⟨0, 1⟩, ⟨1, 2⟩, ⟨2, 2⟩] : List QueueEntry).Pairwise fun x y => x.priority ≤ y.priority := by decide

/-- ChoiceFollowsAdmissionAndOrder: a link that is lost in each of the two ways, and FAULT before the latch (R138, R139). -/
theorem test_link_lost :
    (link fun l => { l with link := .lost }).linkLost = true ∧ (link fun l => { l with link := .fault, lostLatch := true }).linkLost = true ∧
    (link fun l => { l with link := .fault }).linkLost = false ∧ up.linkLost = false := by decide

/-- R41: at a stagger of 0 an expiry that still waits behind a grant of its own millisecond leaves the timer started, so a stagger raised in that millisecond is kept. -/
theorem test_stagger_expires_after_its_start :
    let s : State := { queued with psq := { queued.psq with stagger := some 100000 } }
    let z (ms : Nat) : State := { s with tables := { s.tables with limits := { s.tables.limits with stagger := 0 } }, tb := { s.tb with now := ms } }
    (after .staggerExpiry (z 100000)).psq.stagger = some 100000 ∧ (after .staggerExpiry (z 100001)).bays[(0 : BayId)].state = .ramping ∧
    Instr.staggerExpiry ∈ (z 100000).tick.pending := by decide +kernel

/-- StaggerExpiryGrantsTheChoice: the stagger of 1000 ms just over, with a choice and with none; a start at this moment, and one 1 ms too young; a choice without a
timer; and a part that does not run. -/
theorem test_witness_Stagger :
    99000 < queued.tb.now ∧ queued.tb.now ≤ 100000 ∧ queued.tb.now < 99001 + queued.tables.limits.stagger * 10 ∧
    queued.choice = some 0 ∧ up.choice = none ∧ State.reset.phase ≠ .running ∧
    queued.phase = .running ∧ queued.psq.stagger = some 99000 ∧ 99000 + queued.tables.limits.stagger * 10 = queued.tb.now ∧
    queued.tables.limits.stagger ≠ 0 ∧ State.choice { queued with psq := { queued.psq with stagger := none } } = some 0 ∧
    State.choice { up with psq := { up.psq with stagger := none } } = none := by decide

/-- StaggerExpiryGrantsTheChoice, with a stagger of 0: a choice and none. -/
theorem test_witness_NoStagger :
    let s (q : State) : State := { q with tables := { q.tables with limits := { q.tables.limits with stagger := 0 } } }
    (s queued).phase = .running ∧ (s queued).tables.limits.stagger = 0 ∧ (s queued).psq.queue.length ≤ 24 ∧ (s queued).choice = some 0 ∧
    (s up).choice = none := by decide

theorem test_witness_NewPower : queued.en 0 = false ∧ (after .staggerExpiry queued).en 0 = true := by decide

/-- ShedDueTakesTheCandidate: in DELAY and in INTERVAL with their times just over; no candidate, a candidate, and one of a class without drain time. -/
theorem test_witness_ShedDue :
    let d := powered.setShed 0 (.delay 70000)
    let i := powered.setShed 0 (.interval 80000)
    let z : State := { d with tables := { d.tables with classes := d.tables.classes.set 0 { defaultClass with drainTime := 0 } } }
    d.phase = .running ∧ d.psq.shed[(0 : ZoneId)] = .delay 70000 ∧ 70000 + d.tables.zones[(0 : ZoneId)].shedDelay * 1000 = d.tb.now ∧
    i.psq.shed[(0 : ZoneId)] = .interval 80000 ∧ 80000 + i.tables.zones[(0 : ZoneId)].shedInterval * 1000 = i.tb.now ∧
    (up.setShed 0 (.delay 70000)).shedCandidate 0 = none ∧ d.shedCandidate 0 = some 0 ∧
    0 < d.tables.classes[d.bays[(0 : BayId)].cls].drainTime ∧ z.shedCandidate 0 = some 0 ∧
    z.tables.classes[z.bays[(0 : BayId)].cls].drainTime = 0 := by decide

/-- ConversionSetsTheSensor: in turn and out of it; the ends of the bands, just outside them, and a sensor FAILED already. -/
theorem test_witness_Conversion :
    up.phase = .running ∧ ({ up with converted := 0 } : State).converted = (0 : SensorId).castSucc ∧ up.converted ≠ (0 : SensorId).castSucc ∧ ((-90 : Int) ≤ -90 ∧ (-90 : Int) ≤ 260) ∧ ((-90 : Int) ≤ 260 ∧ (260 : Int) ≤ 260) ∧
    ((-91 : Int) < -90 ∨ (260 : Int) < -91) ∧ ((261 : Int) < -90 ∨ (260 : Int) < 261) ∧ up.sensors[(0 : SensorId)].state ≠ .failed ∧
    ({ up with sensors := up.sensors.set 0 { state := .failed, held := none } } : State).sensors[(0 : SensorId)].state = .failed := by decide

/-- OldReportsAndStretchesEnd: the age limit of 30 s just reached and 1 ms short of it; a stretch ending now and 1 ms later. -/
theorem test_witness_Ages :
    powered.drives[(0 : BayId)].state = .valid ∧ powered.drives[(0 : BayId)].reportTime = some 70000 ∧
    70000 + powered.tables.link.driveAgeLimit * 1000 = powered.tb.now ∧ powered.tb.now < 70001 + powered.tables.link.driveAgeLimit * 1000 ∧
    (up.setApplied 0 { condition := 0, stretch := some 100000 }).smap[(0 : BayId)].stretch = some up.tb.now ∧ up.tb.now < 100001 := by decide

theorem test_witness_Report :
    up.phase = .running ∧ ([((0 : Byte), (0 : Byte))].length = 1) ∧ ([] : List (Byte × Byte)).length = 0 ∧ Serves up ∧
    bayMapUnique powered.tables.bayMap = true ∧ powered.tables.bayMap[(0 : BayId)] = some 0 ∧ powered.bays[(0 : BayId)].state = .powered ∧
    (∀ (b : BayId) (k : SlotId), up.tables.bayMap[b] = some k → k.val = (24 : Byte).toNat → up.bays[b].state ≠ .powered) := by decide +kernel

theorem test_witness_Report_lengths :
    (List.replicate 64 ((0 : Byte), (0 : Byte))).length ≤ 64 ∧ 64 < (List.replicate 65 ((0 : Byte), (0 : Byte))).length := by
  simp only [List.length_replicate]; decide

/-- CurveValueInterpolates: below the first point and at it, at the last and above it, at a point, and between two. -/
theorem test_witness_Curve :
    let ps := defaultCurve.points
    2 ≤ ps.length ∧ pointsOrdered ps = true ∧ ps = ⟨50, 250⟩ :: [⟨70, 400⟩, ⟨90, 700⟩, ⟨110, 1000⟩] ∧ (50 : Int) ≤ 50 ∧
    ps = [⟨50, 250⟩, ⟨70, 400⟩, ⟨90, 700⟩] ++ [⟨110, 1000⟩] ∧ (110 : Int) ≤ 110 ∧ ⟨70, 400⟩ ∈ ps ∧
    ps = [⟨50, 250⟩] ++ ⟨70, 400⟩ :: ⟨90, 700⟩ :: [⟨110, 1000⟩] ∧ (70 : Int) < 71 ∧ (89 : Int) < 90 := by decide

/-- A part whose fan F0 may stop, its zone's demand at 0. -/
def stopping : State :=
  { up with
    tables := { up.tables with
      zones := Vector.replicate 3 { defaultZone with baseFloor := 0 }
      fans := up.tables.fans.set 0 { up.tables.fans[(0 : FanId)] with stopAllowed := true } }
    sensors := State.reset.sensors
    zones := Vector.replicate 3 { Zone.initial with output := 20 } }

/-- `up` with F0 changed. -/
def fan (f : Fan → Fan) : State := up.setFan 0 (f up.fans[0])

theorem test_witness_PeriodEnd :
    up.phase = .running ∧ up.tb.nextPeriod = some 100000 ∧ 100000 ≤ up.tb.now ∧ up.converted = 4 ∧ QueueSound up ∧
    (∀ z : ZoneId, up.zones[z].hold = false) ∧ (∀ z : ZoneId, up.zones[z].shed = false) := by decide

/-- PeriodEndJudgesAndDrivesFans: a duty of 0, and for a duty above 0 each state of the fan, good and low windows, at the third and before it. -/
theorem test_witness_PeriodEndFans :
    (after .controlPeriodEnd stopping).fans[(0 : FanId)].duty = 0 ∧ (after .controlPeriodEnd up).fans[(0 : FanId)].duty ≠ 0 ∧
    up.tables.fans[(0 : FanId)].floorRpm ≤ min 65534 (20 * 60 / up.tables.fans[(0 : FanId)].pulsesPerRev) ∧
    ¬ up.tables.fans[(0 : FanId)].floorRpm ≤ min 65534 (19 * 60 / up.tables.fans[(0 : FanId)].pulsesPerRev) ∧
    (after .controlPeriodEnd (fan fun f => { f with state := .running, pulses := 19, lowCount := 2 })).fans[(0 : FanId)].state = .failed ∧
    (after .controlPeriodEnd (fan fun f => { f with state := .running, pulses := 19, lowCount := 1 })).fans[(0 : FanId)].state = .running ∧
    (after .controlPeriodEnd (fan fun f => { f with state := .failed, pulses := 20, goodCount := 2 })).fans[(0 : FanId)].state = .running ∧
    (after .controlPeriodEnd (fan fun f => { f with state := .failed, pulses := 20, goodCount := 1 })).fans[(0 : FanId)].state = .failed := by
  decide

/-- PeriodEndJudgesAndDrivesFans: a window marked as not judged, with a third low count due. -/
theorem test_witness_PeriodEndSkips :
    let s := fan fun f => { f with state := .running, pulses := 0, lowCount := 2, skipWindow := true }
    s.fans[(0 : FanId)].state = .running ∧ s.fans[(0 : FanId)].skipWindow = true ∧ (after .controlPeriodEnd s).fans[(0 : FanId)].duty ≠ 0 ∧
    (after .controlPeriodEnd s).fans[(0 : FanId)].state = .running ∧ (after .controlPeriodEnd s).fans[(0 : FanId)].lowCount = 2 := by decide

theorem test_witness_PeriodEndGrace :
    (after .controlPeriodEnd (fan fun f => { f with grace := some 95000 })).fans[(0 : FanId)].state = .running ∧
    (after .controlPeriodEnd (fan fun f => { f with grace := some 95001 })).fans[(0 : FanId)].state = .starting := by decide

/-- PeriodEndMovesOnlyShedParkedBays: a shed-parked PARKED bay leaves PARKED where HOLD clears, and stays where it stands. -/
theorem test_witness_PeriodEndBays :
    let s (pulses : Nat) : State :=
      { (bay fun r => { r with state := .parked, shedParked := true }) with
        zones := up.zones.set 0 { Zone.initial with hold := true }
        fans := Vector.ofFn fun f => { up.fans[f] with state := .failed, pulses := pulses, goodCount := 2 } }
    QueueSound (s 20) ∧ (after .controlPeriodEnd (s 20)).zones[(0 : ZoneId)].hold = false ∧
    (after .controlPeriodEnd (s 20)).bays[(0 : BayId)].state ≠ .parked ∧ (after .controlPeriodEnd (s 19)).bays[(0 : BayId)].state = .parked := by
  decide

theorem test_witness_Grace :
    up.tb.nextPeriod = some up.tb.now ∧ (fan fun f => { f with grace := some 95000 }).fans[(0 : FanId)].grace = some 95000 ∧
    95000 + 5000 = up.tb.now ∧ up.fans[(0 : FanId)].state = .starting := by decide

theorem test_witness_LightTick : up.phase = .running ∧ up.tb.nextLight = some up.tb.now ∧ 0 < (⟨true, 1⟩ : PatternStep).duration := by decide

/-- LightTickShowsTheHighestCandidate: a dark line, a SHARED pattern, and a RESTART pattern that starts, goes on and ends. -/
theorem test_witness_LightTickLines :
    let s (l : Line) : State :=
      State.setApplied { powered with len := { powered.len with lineA := powered.len.lineA.set 0 l } } 0 { condition := 0, stretch := some 100050 }
    let l (k : Nat) : Line := { up.len.lineA[(0 : BayId)] with shown := some 16, pattern := some 5, offset := k }
    powered.shownFor 0 .b = none ∧ powered.shownFor 0 .a = some 20 ∧
    (s (l 0)).shownFor 0 .a = some 16 ∧
    powered.tables.indications[(20 : IndicationId)].patternA = some 0 ∧ powered.tables.patterns[(0 : PatternId)].mode = .shared ∧
    powered.tables.indications[(16 : IndicationId)].patternA = some 5 ∧ powered.tables.patterns[(5 : PatternId)].mode = .restart ∧
    ((s (l 3)).tickLine 0 .a (l 3)).engine = true ∧ ((s (l 7)).tickLine 0 .a (l 7)).offset = 0 ∧
    ((s up.len.lineA[(0 : BayId)]).tickLine 0 .a up.len.lineA[(0 : BayId)]).offset = 0 := by decide

theorem test_witness_LineSet : (true = true ∨ false = true) ∧ (false = true ∨ true = true) ∧ Serves up := by decide

/-- A RESTART's reply on the return lane. -/
def restarting : State :=
  { (link fun l => { l with upLane := .reply ⟨0, 9, 0, [], true⟩ }) with mru := { Mru.initial with state := .sending 9 } }

/-- TrainingCountsAlternations: the eighth alternation, the seventh, and hops 3 and 4. -/
theorem test_witness_Training :
    let s (n : Nat) := link fun l => { l with link := .training, trainWord := some (.a, 3), alternation := n }
    (s 7).liu.link = .training ∧ (s 7).liu.trainWord = some (.a, 3) ∧
    (let count := if TrainKind.b ≠ .a ∧ (3 : BitVec 4) = 3 then (s 7).liu.alternation + 1 else 0; 8 ≤ count) ∧
    (let count := if TrainKind.b ≠ .a ∧ (3 : BitVec 4) = 3 then (s 6).liu.alternation + 1 else 0; count < 8) ∧
    (3 : BitVec 4).toNat ≤ 3 ∧ 3 < (4 : BitVec 4).toNat := by decide

theorem test_witness_Retrain :
    (link fun l => { l with link := .disabled }).liu.link = .disabled ∧ (link fun l => { l with frameTaken := false }).liu.frameTaken = false ∧
    up.liu.link = .aligned ∧ up.liu.frameTaken = true ∧ (link fun l => { l with link := .lost }).liu.link = .lost ∧
    (3 : BitVec 4).toNat ≤ 3 ∧ 3 < (4 : BitVec 4).toNat ∧ isSending up.mru.state = false ∧ isSending restarting.mru.state = true ∧
    restarting.liu.link = .aligned ∧ restarting.liu.frameTaken = true := by decide

/-- FramesMoveTheErrorCount: a count that stays below 256 and one that reaches it. -/
theorem test_witness_Frames :
    (link fun l => { l with errorCount := 247 }).liu.errorCount + 8 < 256 ∧ 256 ≤ (link fun l => { l with errorCount := 248 }).liu.errorCount + 8 ∧
    up.liu.link = .aligned ∧ (link fun l => { l with link := .silent }).liu.link = .silent ∧
    (link fun l => { l with link := .training }).liu.link = .training ∧ (link fun l => { l with link := .listen }).liu.link = .listen := by decide

/-- FramesMoveTheErrorCount: a probe that waits for the link, and a quiet lane of an ALIGNED port with a frame waiting and with none (R145, R146). -/
theorem test_witness_FramesDown :
    let w := link fun l => { l with link := .silent, port := .absent, retryDue := some 100000 }
    let q (fs : List DownFrame) := link fun l => { l with link := .silent, port := .aligned, downLane := .idle, forwardQueue := fs }
    w.liu.retryDue = some w.tb.now ∧ w.liu.position = some 0 ∧ (after .upstreamFill w).liu.port = .probing ∧
    (q []).liu.port ≠ .absent ∧ (after .upstreamFill (q [])).liu.downLane = .fill ∧
    (after .upstreamFill (q [.request 1 2 0x41 []])).liu.downLane = .frame (.request 1 2 0x41 []) ∧
    (q []).resumeDown = q [] ∧ (q []).acceptFrame.liu.link = .aligned := by decide

/-- A RESTART whose reply a FAULT or a link reset loses brings the controller reset in the same row (R178, R179). -/
theorem test_lost_reply_resets :
    (after .upstreamBadFrame { restarting with liu := { restarting.liu with errorCount := 248 } }).phase = .resetLoad ∧
    (after (.trainingWord .a 0) restarting).phase = .resetLoad ∧
    (after .autonomyTimeout { restarting with liu := { restarting.liu with link := .silent, silenceStart := some 95000 } }).phase = .resetLoad := by
  decide

/-- SweepAppliedAndForwardedOrAnswered: counts of 127 and 128 after the sweep; the port ALIGNED with no, one and two entries, and with the entry of the sweep's own
number; the port not ALIGNED with two returns waiting. -/
theorem test_witness_Sweep :
    let s (n : Nat) (q : List Outstanding) := link fun l => { l with errorCount := n, port := .aligned, outstanding := q, returnWatch := some 99990 }
    (s 128 []).liu.errorCount - 1 < 128 ∧ 128 ≤ (s 129 []).liu.errorCount - 1 ∧ (s 0 []).liu.port = .aligned ∧
    (s 0 [⟨1, 100001⟩]).liu.outstanding.length < 2 ∧ (s 0 [⟨1, 100001⟩, ⟨2, 100002⟩]).liu.outstanding.length = 2 ∧
    (∀ e ∈ (s 0 [⟨1, 100001⟩, ⟨2, 100002⟩]).liu.outstanding, e.number ≠ 3) ∧
    (s 0 [⟨1, 100001⟩, ⟨2, 100002⟩]).liu.outstanding = [⟨1, 100001⟩] ++ ⟨2, 100002⟩ :: [] ∧ (∀ x ∈ [(⟨1, 100001⟩ : Outstanding)], x.number ≠ 2) ∧
    up.liu.port ≠ .aligned ∧ up.liu.upLane ≠ .idle ∧ up.liu.pendingReturns.length < 3 ∧
    (s 0 []).liu.downLane = .idle ∧ (s 0 []).liu.forwardQueue = [] ∧ (link fun l => { l with downLane := .fill }).liu.downLane ≠ .idle := by decide

/-- SweepAppliedAndForwardedOrAnswered: a sweep with the number of the younger of two entries gives up both; the idle lane takes the older's return, the younger's waits. -/
theorem test_sweep_gives_up_oldest_first :
    let t := after (.upstreamSweep 2 (Vector.replicate 128 0)) (link fun l =>
      { l with port := .aligned, outstanding := [⟨1, 100001⟩, ⟨2, 100002⟩], returnWatch := some 99990, upLane := .idle })
    (match t.liu.upLane with | .ret r => r.number == 1 && r.attention | _ => false) = true ∧ t.liu.pendingReturns.map (·.number) = [2] ∧
    t.liu.outstanding.map (·.number) = [2] := by decide +kernel

theorem test_witness_ReturnSlots :
    bayMapUnique up.tables.bayMap = true ∧ up.tables.bayMap[(23 : BayId)] = some 23 ∧ (∀ b : BayId, up.tables.bayMap[b] ≠ some 24) := by decide

/-- RequestsGoByTarget: the own position, one further on with the port ALIGNED and not, one before, an undefined one, and ALL. -/
theorem test_witness_Requests :
    let s (pt : PortState) := link fun l => { l with position := some 1, port := pt }
    (s .aligned).liu.position = some 1 ∧ (1 : Byte).toNat = (1 : Fin 4).val ∧ ((1 : Fin 4).val < (2 : Byte).toNat ∧ (3 : Byte).toNat ≤ 3) ∧
    (s .aligned).acceptFrame.liu.port = .aligned ∧ (s .absent).acceptFrame.liu.port ≠ .aligned ∧ (0 : Byte).toNat < (1 : Fin 4).val ∧
    (4 ≤ (4 : Byte).toNat ∧ (254 : Byte).toNat ≤ 254) ∧ (255 : Byte).toNat = 255 ∧ (0x21 : Byte) = 0x21 ∧ (0x20 : Byte) ≠ 0x21 := by decide

/-- SilenceLeadsToLoss: 50 ms just over and 1 ms short; the 5 s of autonomy likewise, in SILENT and in FAULT. -/
theorem test_witness_Silence :
    up.liu.silenceStart = some 99950 ∧ 99950 + 50 = up.tb.now ∧ up.tb.now < 99951 + 50 ∧
    95000 + up.tables.link.autonomyTimeout * 1000 = up.tb.now ∧ up.tb.now < 95001 + up.tables.link.autonomyTimeout * 1000 ∧
    (link fun l => { l with link := .silent, silenceStart := some 95000 }).liu.link = .silent ∧ isSending up.mru.state = false ∧
    (link fun l => { l with link := .fault, silenceStart := some 95000 }).liu.lostLatch = false := by decide

/-- DownstreamPortProbesAndWatches: no answer yet, an answer of the same kind, the seventh and the eighth alternation, and each timer just over. -/
theorem test_witness_Port :
    let s (a : Option TrainKind) (n : Nat) :=
      link fun l => { l with port := .probing, probeAnswer := a, probeCount := n, probeStart := some 99990 }
    (s none 0).liu.port = .probing ∧ (s none 0).liu.position = some 0 ∧ (s none 0).liu.probeAnswer = none ∧
    (s (some .a) 6).liu.probeAnswer = some .a ∧ TrainKind.a ≠ .b ∧ (1 : BitVec 4).toNat = (0 : Fin 4).val + 1 ∧
    (s (some .a) 6).liu.probeCount + 1 < 8 ∧ 8 ≤ (s (some .a) 7).liu.probeCount + 1 ∧ 99990 + 10 = up.tb.now ∧
    (link fun l => { l with port := .aligned, returnWatch := some 99950 }).liu.returnWatch = some 99950 ∧ 99950 + 50 = up.tb.now ∧
    (link fun l => { l with port := .absent, retryDue := some 100000 }).liu.retryDue = some up.tb.now ∧
    (link fun l => { l with link := .silent, port := .absent, retryDue := some 100000 }).liu.link = .silent ∧
    up.tb.now < 99951 + 50 := by decide

/-- ReturnsAreMatchedOrGivenUp: a late return, one that matches the oldest entry, one that matches the other; deadlines now and later, and two passed; a port not ALIGNED. -/
theorem test_witness_Returns :
    let s (q : List Outstanding) := link fun l => { l with port := .aligned, outstanding := q }
    (s []).liu.port = .aligned ∧ (∀ e ∈ (s [⟨1, 100000⟩]).liu.outstanding, e.number ≠ 2) ∧ (s [⟨1, 100000⟩]).liu.outstanding = ⟨1, 100000⟩ :: [] ∧
    (s [⟨1, 100000⟩, ⟨2, 100001⟩]).liu.outstanding = ⟨1, 100000⟩ :: ⟨2, 100001⟩ :: [] ∧ (1 : Byte) ≠ 2 ∧
    (∀ e' ∈ [(⟨2, 100001⟩ : Outstanding)], up.tb.now < e'.deadline) ∧ 100000 ≤ up.tb.now ∧ up.liu.link.carriesFrames = true ∧
    up.liu.upLane ≠ .idle ∧ up.liu.pendingReturns.length ≤ 1 ∧ (s [⟨1, 99999⟩, ⟨2, 100000⟩]).liu.outstanding = [⟨1, 99999⟩, ⟨2, 100000⟩] ∧
    99999 ≤ up.tb.now ∧ up.liu.port ≠ .aligned := by decide

theorem test_witness_Lanes :
    up.liu.link = .aligned ∧ up.liu.upLane = .fill ∧ restarting.liu.upLane = .reply ⟨0, 9, 0, [], true⟩ ∧ restarting.mru.state = .sending 9 ∧
    (link fun l => { l with port := .aligned, downLane := .fill, forwardQueue := [.request 1 2 0x41 []] }).liu.forwardQueue =
      .request 1 2 0x41 [] :: [] ∧
    (link fun l => { l with link := .silent, port := .aligned, downLane := .fill }).liu.link ≠ .aligned := by decide

/-- LanesTakeTheNextFrame: a full queue and one with room; three returns and two; an idle lane with a return waiting, and with none. -/
theorem test_witness_Replies :
    let r : ReplyFrame := ⟨0, 1, 0, [], false⟩
    let x : ReturnFrame := up.originated 5
    let idle := { up.liu with upLane := .idle }
    4 ≤ ({ up.liu with replyQueue := List.replicate 4 r } : Liu).replyQueue.length ∧ up.liu.replyQueue.length < 4 ∧ up.liu.upLane ≠ .idle ∧
    3 ≤ ({ up.liu with pendingReturns := List.replicate 3 x } : Liu).pendingReturns.length ∧ up.liu.pendingReturns.length < 3 ∧
    ({ idle with pendingReturns := [x] } : Liu).pendingReturns = x :: [] ∧ idle.upLane = .idle ∧ idle.replyQueue ++ [r] = r :: [] ∧
    idle.pendingReturns ++ [x] = x :: [] ∧ (idle.pushReply r).upLane = .reply r ∧ Liu.initial.pushReply r = Liu.initial := by
  simp only [List.length_replicate]; decide +kernel

/-- TableRequestsAnswerInOrder: the third entry's field faulty; B5 and B3 both on slot 60, answered at the higher; a class, a curve and a fan against their constraints. -/
theorem test_failing_index :
    let c (i s : Nat) := DriveClass.encode { defaultClass with inrush12 := i, steady12 := s }
    up.tables.checkWrite .linkSettings 0 [[5, 0]] = .bad 0 ∧
    up.tables.checkWrite .bayMap 4 [[70], [71], [200]] = .bad 6 ∧ up.tables.checkWrite .bayMap 3 [[60], [61], [60]] = .bad 5 ∧
    up.tables.checkWrite .bayMap 3 [[20]] = .bad 20 ∧ up.tables.checkWrite .classes 2 [c 80 80, c 79 80, c 0 1] = .bad 3 ∧
    up.tables.checkWrite .curves 1 [Curve.encode { defaultCurve with hold := none }] = .bad 1 ∧
    up.tables.checkWrite .fans 5 [FanSetting.encode { (defaultFan 5) with maxDuty := 199 }] = .bad 5 := by decide +kernel

/-- TableRequestsAnswerInOrder: entries that pass step 4, before a faulty one and before a constraint. -/
theorem test_witness_FailingIndex :
    (∃ u, up.tables.putEntries .bayMap 4 [[70], [71]] = .ok u ∧ u.putEntry .bayMap (4 + 2) [200] = none) ∧
    (∃ u, up.tables.putEntries .bayMap 3 [[60], [61], [60]] = .ok u ∧ (3 : BayId) ≠ 5 ∧ u.bayMap[(3 : BayId)] ≠ none ∧
      u.bayMap[(5 : BayId)] = u.bayMap[(3 : BayId)]) ∧
    (∃ u, up.tables.putEntries .linkSettings 0 [[60, 255]] = .ok u) :=
  ⟨⟨_, rfl, by decide⟩, ⟨_, rfl, by decide, by decide, by decide⟩, ⟨_, rfl⟩⟩

/-- TableRequestsAnswerInOrder: an id above 10; a count of 0 and a range that ends one too far; entries that split, that do not, that fail a check, and a limits
record below the charges and one at them. -/
theorem test_witness_Tables :
    11 ≤ (11 : Byte).toNat ∧ (10 : Byte).toNat = TableId.code .linkSettings ∧ TableId.entries .linkSettings < (0 : Byte).toNat + (2 : Byte).toNat ∧
    (1 : Byte) ≠ 0 ∧ (0 : Byte).toNat + (1 : Byte).toNat ≤ TableId.entries .linkSettings ∧
    splitEntries .linkSettings 1 [5, 30] = some ([[5, 30]], []) ∧ splitEntries .linkSettings 1 [5] = none ∧
    up.tables.checkWrite .linkSettings 0 [[0, 30]] = .bad 0 ∧ up.tables.checkWrite .linkSettings 0 [[60, 255]] ≠ .bad 0 := by decide

/-- TableRequestsAnswerInOrder: a TABLE READ is served during a save (R168, R169). -/
theorem test_read_during_a_save :
    let s := mru fun m => { m with saveInProgress := true }
    ServesReads s ∧ ¬ Serves s ∧ exec (.tableRead 7 10 0 1) s = .next (s.reply 7 .done [10, 0, 1, 5, 30]) := ⟨by decide, by decide, by rfl⟩

/-- What a write does at once: a shed-parked bay moved out of HOLD, one not moved; a candidate for an OWED record and none; a frequency changed under a fan that
stands and one that turns. -/
theorem test_witness_TakeUp :
    let s := bay fun r => { r with state := .parked, shedParked := true }
    let old : Tables :=
      { s.tables with baySettings := s.tables.baySettings.set 0 { s.tables.baySettings[(0 : BayId)] with zone := 1 } }
    s.bays[(0 : BayId)].state = .parked ∧ s.bays[(0 : BayId)].shedParked = true ∧
    old.baySettings[(0 : BayId)].zone ≠ s.tables.baySettings[(0 : BayId)].zone ∧ s.zones[s.tables.baySettings[(0 : BayId)].zone].hold = false ∧
    powered.bays[(0 : BayId)].state.live = true ∧ up.bays[(0 : BayId)].state.live = false ∧
    (powered.setShed 0 .owed).psq.shed[(0 : ZoneId)] = .owed ∧ (powered.setShed 0 .owed).shedCandidate 0 = some 0 ∧
    up.psq.shed[(0 : ZoneId)] ≠ .owed ∧ up.tables.fans[(0 : FanId)].pwmFrequency ≠ 100 ∧ up.fans[(0 : FanId)].duty ≠ 0 ∧
    (up.setFan 0 { up.fans[(0 : FanId)] with duty := 0 }).fans[(0 : FanId)].duty = 0 := by decide

theorem test_witness_OverLimit :
    (match powered.tables.checkWrite .limits 0 [Limits.encode { defaultLimits with rail12 := 79 }] with
      | .ok t => decide (t.limits.rail12 < powered.psq.committed12)
      | .bad _ => false) = true ∧
    (match powered.tables.checkWrite .limits 0 [Limits.encode { defaultLimits with rail12 := 80 }] with
      | .ok t => decide (powered.psq.committed12 ≤ t.limits.rail12 ∧ powered.psq.committed5 ≤ t.limits.rail5 ∧
          ∀ g : GroupId, powered.psq.branch[g] ≤ t.limits.branch[g])
      | .bad _ => false) = true := by decide

theorem test_witness_default_tables : defaultTables.wf = true ∧ Memory.wf [] = true := by decide

theorem test_witness_StatusReads :
    ServesReads up ∧ (1 ≤ (9 : Byte).toNat ∧ (15 : Byte).toNat + (9 : Byte).toNat ≤ 24 ∧ (9 : Byte).toNat ≤ 9) ∧ (0 : Byte).toNat = 0 ∧
    24 < (16 : Byte).toNat + (9 : Byte).toNat ∧ 9 < (10 : Byte).toNat := by decide

/-- StatusReadsReplyWithRecords: a queue with an entry, a bay of the range, a last grant, a deadline of a sound bay and none, and a shed-since time. -/
theorem test_witness_Records :
    0 < queued.psq.queue.length ∧ (15 : BayId).val = (15 : Byte).toNat + 0 ∧ 0 < (9 : Byte).toNat ∧
    (bay fun r => { r with lastGrant := some 7 }).bays[(0 : BayId)].lastGrant = some 7 ∧ BaySound ramping.bays[(0 : BayId)] ∧
    ramping.bays[(0 : BayId)].pgDeadline ≠ none ∧ up.bays[(0 : BayId)].pgDeadline = none ∧ up.bays[(0 : BayId)].backoffDeadline = none ∧
    up.bays[(0 : BayId)].drainDeadline = none ∧
    ({ up with zones := up.zones.set 0 { Zone.initial with shedSince := some 9 } } : State).zones[(0 : ZoneId)].shedSince = some 9 := by decide

theorem test_witness_AttentionClear : (0x8000 : BitVec 16).getLsbD 15 = true ∧ (0x7FFF : BitVec 16).getLsbD 15 = false := by decide

theorem test_witness_Busy :
    up.phase = .running ∧ restarting.mru.state ≠ .idle ∧ (mru fun m => { m with saveInProgress := true }).mru.saveInProgress = true := by decide

theorem test_witness_FaultyActions :
    24 ≤ (24 : Byte).toNat ∧ 16777216 ≤ (0x01000000 : BitVec 32).toNat ∧ (0x00FFFFFF : BitVec 32).toNat < 16777216 ∧ (0 : BitVec 32).toNat < 16777216 ∧
    (0 : Byte).toNat = 0 ∧
    4 ≤ (4 : Byte).toNat ∧ 2 ≤ (2 : Byte).toNat := by decide

/-- RestartWaitsForItsReply: a bay to wait for and none; the quiesce limit just over and 1 ms short; a queue with room, a full one, and a link that carries
nothing. -/
theorem test_witness_Restart :
    let q (t : Nat) := mru fun m => { m with state := .quiescing 9 t }
    Serves ramping ∧ ramping.bays[(0 : BayId)].state = .ramping ∧ (∀ b : BayId, up.bays[b].state ≠ .ramping ∧ up.bays[b].state ≠ .removing) ∧
    (q 40000).mru.state = .quiescing 9 40000 ∧ 40000 + 60000 = up.tb.now ∧ up.tb.now < 40001 + 60000 ∧ up.liu.replyQueue.length < 4 ∧
    4 ≤ (link fun l => { l with replyQueue := List.replicate 4 ⟨0, 0, 0, [], false⟩ }).liu.replyQueue.length ∧
    ((link fun l => { l with link := .lost }).liu.link ≠ .aligned ∧ (link fun l => { l with link := .lost }).liu.link ≠ .silent) := by decide

/-- RestartWaitsForItsReply: bay transitions of a QUIESCING part, the last bay settled and one still RAMPING; and of a part that is not QUIESCING. -/
theorem test_witness_AfterBay :
    let q (s : State) : State := { s with mru := { s.mru with state := .quiescing 9 99000 }, psq := { s.psq with quiescePending := true } }
    (q up).mru.state = .quiescing 9 99000 ∧ (∀ b : BayId, (q up).bays[b].state ≠ .ramping ∧ (q up).bays[b].state ≠ .removing) ∧
    ((q up).afterBay false).mru.state = .sending 9 ∧ (q ramping).bays[(0 : BayId)].state = .ramping ∧
    ((q ramping).afterBay true).mru.state = .quiescing 9 99000 ∧ up.mru.state = .idle ∧ up.afterBay false = up := by decide

/-- SaveWritesTheImageInOrder: an erase to be sent, to a memory that acknowledges and to one that does not; a write waited for, to the last ms and past it; a bus held low; a load's wait and its
reading. -/
theorem test_witness_Transfers :
    let c := (saving none).cmp
    let late : Cmp := { Cmp.initial.beginLoad 5 with answersFrom := some 8 }
    c.tickTransfers 100001 = [[.start, .sent 0xAC, .sent 0, .sent 0, .sent 0, .sent 0]] ∧
    ({ c with answersFrom := none } : Cmp).tickTransfers 100001 = [[.start, .sent 0xAC]] ∧ ({ c with heldLow := some 5 } : Cmp).tickTransfers 100001 = [] ∧
    (saving (some 99991)).cmp.tickTransfers 100001 = [[.start, .sent 0xAC]] ∧ (saving (some 99990)).cmp.tickTransfers 100001 = [] ∧
    late.tickTransfers 7 = [[.start, .sent 0xAC]] ∧ late.acknowledges 8 = true ∧ (late.atTick 8).readStart ≠ none ∧ (late.atTick 8).tickTransfers 9 = [] ∧
    ({ c with state := .saving [⟨.erase, 0, [0, 0]⟩, ⟨.body, 2, [1]⟩] } : Cmp).acknowledgeTransfers = [writeTransfer 2 [1]] := by decide

/-- SaveWritesTheImageInOrder: memories that end the reading at each item, and one that does not. -/
theorem test_witness_ImageReadCount :
    let count (bytes : List Byte) := imageReadCount (Memory.writeBytes [] 0 bytes)
    [count [0xC3, 0x5B, 1, 0, 0], count [0xC3, 0x5A, 2, 0, 0], count [0xC3, 0x5A, 1, 0x07, 0xFA], count [0xC3, 0x5A, 1, 0x07, 0xF9],
      count [0xC3, 0x5A, 1, 0, 0]] = [2, 3, 5, 2048, 7] := by decide

/-- SaveWritesTheImageInOrder: a write not sent, one sent 10 ms ago and one longer ago; another to follow and none; and a load that waits. -/
theorem test_witness_Save :
    let s (w : List SaveWrite) (t : Nat) : State := { up with cmp := { up.cmp with state := .saving w, waitStart := some t } }
    Serves up ∧ up.cmp.acknowledges up.tb.now = true ∧ (saving none).cmp.waitStart = none ∧ 99989 + 10 < up.tb.now ∧ up.tb.now ≤ 99990 + 10 ∧
    (s [⟨.erase, 0, [0, 0]⟩, ⟨.body, 2, [1]⟩] 99990).cmp.state = .saving (⟨.erase, 0, [0, 0]⟩ :: ⟨.body, 2, [1]⟩ :: []) ∧
    (s [⟨.marker, 0, [0xC3, 0x5A]⟩] 99990).cmp.state = .saving [⟨.marker, 0, [0xC3, 0x5A]⟩] ∧
    (Cmp.initial.beginLoad 0).state = .loading ∧ (Cmp.initial.beginLoad 0).waitStart ≠ none := by decide

/-- ReceiverFindsEverySentFrame: the shortest and the longest REQUEST, and a payload of 240 bytes. -/
theorem test_witness_Receiver :
    Frame.wf ⟨.request, List.replicate 3 0⟩ = true ∧ Frame.wf ⟨.request, List.replicate 243 0⟩ = true ∧ (List.replicate 240 (0 : Byte)).length ≤ 240 := by
  simp only [Frame.wf, List.length_replicate]; decide

/-- R132: the check bytes of the nine bytes of the spec's example; R131, R133: a FILL with a wrong check, a header of an undefined kind, one of a wrong length, and a data word
after it. -/
theorem test_bad_frames :
    crcBytes [0x31, 0x32, 0x33, 0x34, 0x35, 0x36, 0x37, 0x38, 0x39] = [0x29, 0xB1] ∧ Frame.wf ⟨.fill, []⟩ = true ∧
    ([0, 0] : List Byte) ≠ crcBytes ([FrameKind.code .fill, u8 0] ++ []) ∧
    Receiver.run .outside ([startWord, dataWord 0, dataWord 0, dataWord 0, dataWord 0]) = (.outside, [.bad]) ∧
    Receiver.run .outside [startWord, dataWord 5, dataWord 0] = (.outside, [.bad]) ∧ 5 ≤ (5 : Byte).toNat ∧
    Receiver.run .outside [startWord, dataWord 3, dataWord 244, dataWord 1] = (.outside, [.bad]) ∧ 243 < (244 : Byte).toNat := by decide +kernel

theorem test_witness_RequestFrames :
    up.liu.link = .aligned ∧ up.liu.position = some 0 ∧ ∃ t, exec (.configSave 1) up.acceptFrame = .next t :=
  ⟨by decide, by decide, _, rfl⟩

/-- RequestFramesCarryTheRequests: a report and its count; a kind that is not defined; a mark outside 1 to 3, a report without pairs, a LINE SET of no bay and no line, and a
bay above B23. -/
theorem test_witness_RequestForms :
    [((0 : Byte), (0 : Byte))].length ≤ 255 ∧ (0x22 : Byte) ∉ [(0x10 : Byte), 0x11, 0x20, 0x21, 0x30, 0x31, 0x32, 0x40, 0x41] ∧
    (∃ t, exec (.temperatureReport true 1 [(0, 40)]) up.acceptFrame = .next t) ∧ Serves up.acceptFrame ∧
    BadPayload 0x21 [] ∧ BadPayload 0x20 [23, 6, 4] ∧ BadPayload 0x32 [0, 0, 0, 0, 0, 1, 0] ∧ BadRangePayload 0x20 [24, 0, 0] ∧ BadRangePayload 0x30 [1, 15, 10] :=
  ⟨by decide, by decide, ⟨_, rfl⟩, by decide, .inr (.inr (.inr (.inl ⟨rfl, .inl rfl⟩))),
    .inr (.inr (.inl ⟨rfl, .inr ⟨23, 6, 4, rfl, by decide, by decide⟩⟩)),
    .inr (.inr (.inr (.inr (.inr (.inr (.inl ⟨rfl, .inr ⟨0, 0, 0, 0, 1, 0, rfl, .inl rfl⟩⟩)))))), .inl ⟨rfl, 24, 0, 0, rfl, by decide⟩,
    .inr (.inl ⟨rfl, 15, 10, rfl, by decide⟩)⟩

end Sys2Proof.Tests
end

/-! ### The bays and the insertion state machine (chapter 1): the enables

ENn is a function of the bay's state, so each reset's effect on it is read off the reset's effect on that state. -/

namespace Sys2Proof.Machine

/-! #### What the bay's state says about its enable -/

theorem BayState.live_iff (x : BayState) : x.live = true ↔ x = .ramping ∨ x = .powered := by
  cases x <;> decide

theorem State.en_iff (s : State) (b : BayId) : s.en b = true ↔ s.bays[b].state = .ramping ∨ s.bays[b].state = .powered :=
  BayState.live_iff s.bays[b].state

theorem State.en_of_empty {s : State} {b : BayId} (h : s.bays[b].state = .empty) : s.en b = false := by
  unfold State.en
  rw [h]
  rfl

/-! #### The power-on reset leaves every bay EMPTY -/

theorem State.reset_bay (b : BayId) : State.reset.bays[b] = BayRecord.initial defaultTables.baySettings[b].cls := by
  unfold State.reset
  exact get_ofFn _ b

theorem State.reset_en (b : BayId) : State.reset.en b = false :=
  State.en_of_empty (by rw [State.reset_bay]; rfl)

@[simp] theorem State.powerOnReset_bays (s : State) : s.powerOnReset.bays = State.reset.bays := by
  unfold State.powerOnReset
  rfl

theorem State.powerOnReset_en (s : State) (b : BayId) : s.powerOnReset.en b = false := by
  unfold State.en
  rw [State.powerOnReset_bays]
  exact State.reset_en b

theorem exec_powerOnReset (s : State) : exec .powerOnReset s = .next s.powerOnReset := rfl

/-! #### The controller reset keeps the POWERED bays and no other powered (R26) -/

theorem BayRecord.onReset_live_iff (r : BayRecord) : r.onReset.state.live = true ↔ r.state = .powered := by
  unfold BayRecord.onReset
  cases h : r.state <;> simp [h, BayState.live_iff]

theorem State.controllerReset_bay (s : State) (byPin : Bool) (b : BayId) : (s.controllerReset byPin).bays[b] = s.bays[b].onReset := by
  rw [State.controllerReset_bays]
  exact get_ofFn _ b

theorem State.controllerReset_en_iff (s : State) (byPin : Bool) (b : BayId) :
    (s.controllerReset byPin).en b = true ↔ s.bays[b].state = .powered := by
  unfold State.en
  rw [State.controllerReset_bay]
  exact BayRecord.onReset_live_iff s.bays[b]

theorem exec_controllerReset_of_started {s : State} (h : s.phase = .running ∨ s.phase = .resetLoad) :
    exec .controllerReset s = .next (s.controllerReset true) := by
  change execControllerReset s = _
  unfold execControllerReset
  obtain h | h := h <;> rw [h]

/-- Settles O18: the enable is read off the bay's state, before and after each of the two resets. -/
theorem enableFollowsBayState : Obligations.EnableFollowsBayState := by
  refine ⟨State.en_iff, State.reset_en, fun s t ht b => ?powerOn, State.controllerReset_en_iff, fun s t hphase ht b => ?pin⟩
  case powerOn =>
    rw [exec_powerOnReset] at ht
    cases ht
    exact s.powerOnReset_en b
  case pin =>
    rw [exec_controllerReset_of_started hphase] at ht
    cases ht
    exact s.controllerReset_en_iff true b

end Sys2Proof.Machine

/-! ### Fan demand and fan supervision (chapter 4): the curve value

A curve's temperatures increase from every point to every later one, so at or above a point's temperature the points before it do not
matter, and each part of R74 is read off the list that begins at the point concerned. -/

namespace Sys2Proof.Machine

/-! #### The order of a curve's points (R73) -/

/-- What R73 asks of two points of a curve, the first before the second. -/
def CurvePoint.Before (p q : CurvePoint) : Prop := p.temp < q.temp ∧ p.duty ≤ q.duty

theorem CurvePoint.Before.trans {p q r : CurvePoint} (hpq : p.Before q) (hqr : q.Before r) : p.Before r :=
  ⟨hpq.1.trans hqr.1, hpq.2.trans hqr.2⟩

theorem pointsOrdered_iff_isChain (points : List CurvePoint) : pointsOrdered points = true ↔ points.IsChain CurvePoint.Before := by
  induction points using pointsOrdered.induct with
  | case1 p q rest ih => simp [pointsOrdered, ih, CurvePoint.Before]
  | case2 points hshort =>
    match points, hshort with
    | [], _ => simp [pointsOrdered]
    | [p], _ => simp [pointsOrdered]
    | p :: q :: rest, hshort => exact absurd rfl (hshort p q rest)

/-- The constraint compares neighbours only; it holds of any two points. -/
theorem pointsOrdered_iff_pairwise (points : List CurvePoint) : pointsOrdered points = true ↔ points.Pairwise CurvePoint.Before := by
  have : IsTrans CurvePoint CurvePoint.Before := ⟨fun _ _ _ => CurvePoint.Before.trans⟩
  rw [pointsOrdered_iff_isChain, List.isChain_iff_pairwise]

theorem temp_lt_of_pointsOrdered {front back : List CurvePoint} {q : CurvePoint} (h : pointsOrdered (front ++ q :: back) = true) :
    ∀ p ∈ front, p.temp < q.temp := by
  obtain ⟨-, -, hcross⟩ := List.pairwise_append.mp ((pointsOrdered_iff_pairwise _).mp h)
  exact fun p hp => (hcross p hp q List.mem_cons_self).1

theorem before_of_pointsOrdered {front back : List CurvePoint} {p q : CurvePoint}
    (h : pointsOrdered (front ++ p :: q :: back) = true) : p.Before q := by
  obtain ⟨-, hback, -⟩ := List.pairwise_append.mp ((pointsOrdered_iff_pairwise _).mp h)
  exact List.rel_of_pairwise_cons hback List.mem_cons_self

/-! #### The three branches of the curve value -/

theorem curveValue_of_le_head {p : CurvePoint} {t : Int} (h : t ≤ p.temp) (rest : List CurvePoint) :
    curveValue (p :: rest) t = p.duty := by
  cases rest with
  | nil => rfl
  | cons q rest => simp only [curveValue, if_pos h]

theorem curveValue_between {p q : CurvePoint} {t : Int} (hp : p.temp < t) (hq : t < q.temp) (rest : List CurvePoint) :
    curveValue (p :: q :: rest) t = p.duty + (q.duty - p.duty) * (t - p.temp).toNat / (q.temp - p.temp).toNat := by
  simp only [curveValue, if_neg hp.not_ge, if_pos hq]

theorem curveValue_drop_head {p q : CurvePoint} {t : Int} (hp : p.temp < t) (hq : q.temp ≤ t) (rest : List CurvePoint) :
    curveValue (p :: q :: rest) t = curveValue (q :: rest) t := by
  simp only [curveValue, if_neg hp.not_ge, if_neg hq.not_gt]

/-- At or above a point's temperature the points before it do not matter. -/
theorem curveValue_drop_front {front back : List CurvePoint} {q : CurvePoint} {t : Int} (hfront : ∀ p ∈ front, p.temp < q.temp)
    (hq : q.temp ≤ t) : curveValue (front ++ q :: back) t = curveValue (q :: back) t := by
  induction front with
  | nil => rfl
  | cons p front ih =>
    obtain ⟨hp, hrest⟩ := List.forall_mem_cons.mp hfront
    rw [← ih hrest]
    cases front with
    | nil => exact curveValue_drop_head (hp.trans_le hq) hq back
    | cons r front =>
      have hr : r.temp < q.temp := hrest r List.mem_cons_self
      exact curveValue_drop_head (hp.trans_le hq) (hr.le.trans hq) (front ++ q :: back)

/-! #### The interpolated duty -/

/-- The model divides naturals, each difference being at least 0; the rule divides integers. -/
theorem curveValue_between_cast {p q : CurvePoint} {t : Int} (hpq : p.Before q) (hp : p.temp < t) (hq : t < q.temp)
    (rest : List CurvePoint) :
    (curveValue (p :: q :: rest) t : Int) = p.duty + ((q.duty - p.duty) * (t - p.temp)) / (q.temp - p.temp) := by
  obtain ⟨htemp, hduty⟩ := hpq
  have ht : ((t - p.temp).toNat : Int) = t - p.temp := Int.toNat_of_nonneg (by omega)
  have hd : ((q.temp - p.temp).toNat : Int) = q.temp - p.temp := Int.toNat_of_nonneg (by omega)
  rw [curveValue_between hp hq, Int.natCast_add, Int.natCast_ediv, Int.natCast_mul, Int.natCast_sub hduty, ht, hd]

theorem curveValue_between_bounds {p q : CurvePoint} {t : Int} (hpq : p.Before q) (hp : p.temp < t) (hq : t < q.temp)
    (rest : List CurvePoint) : p.duty ≤ curveValue (p :: q :: rest) t ∧ curveValue (p :: q :: rest) t ≤ q.duty := by
  have hspan : (t - p.temp).toNat ≤ (q.temp - p.temp).toNat := by omega
  have hrise : (q.duty - p.duty) * (t - p.temp).toNat / (q.temp - p.temp).toNat ≤ q.duty - p.duty :=
    Nat.div_le_of_le_mul (by rw [Nat.mul_comm]; exact Nat.mul_le_mul_right _ hspan)
  have hduty : p.duty ≤ q.duty := hpq.2
  rw [curveValue_between hp hq]
  exact ⟨Nat.le_add_right _ _, (Nat.add_le_add_left hrise _).trans_eq (Nat.add_sub_cancel' hduty)⟩

/-- Settles O27: in each part the points before the one concerned are dropped, and the branch the curve value then takes is named. -/
theorem curveValueInterpolates : Obligations.CurveValueInterpolates := by
  intro points t _ hordered
  refine ⟨?first, ?last, ?point, ?between⟩
  case first =>
    rintro p rest rfl ht
    exact curveValue_of_le_head ht rest
  case last =>
    rintro front p rfl ht
    rw [curveValue_drop_front (temp_lt_of_pointsOrdered hordered) ht]
    rfl
  case point =>
    rintro p hp rfl
    obtain ⟨front, back, rfl⟩ := List.append_of_mem hp
    rw [curveValue_drop_front (temp_lt_of_pointsOrdered hordered) le_rfl]
    exact curveValue_of_le_head le_rfl back
  case between =>
    rintro front p q back rfl hp hq
    have hpq : p.Before q := before_of_pointsOrdered hordered
    rw [curveValue_drop_front (temp_lt_of_pointsOrdered hordered) hp.le]
    exact ⟨curveValue_between_cast hpq hp hq back, curveValue_between_bounds hpq hp hq back⟩

end Sys2Proof.Machine

/-! ### Management requests (chapter 9): the ATTENTION CLEAR

The set a request carries has 16 bits, the attention set 15: bit 15 is refused, and every kind has its place below it, so no named kind is
lost where the set is cut to 15 bits. -/

namespace Sys2Proof.Machine

/-! #### Kinds taken out of an attention set (R177) -/

theorem AttentionKind.place_lt (k : AttentionKind) : k.place < 15 := by
  cases k <;> decide

theorem attentionHas_and_not (a kinds : BitVec 15) (k : AttentionKind) :
    attentionHas (a &&& ~~~kinds) k = (attentionHas a k && !kinds.getLsbD k.place) := by
  simp [attentionHas, k.place_lt]

theorem getLsbD_place_setWidth (kinds : BitVec 16) (k : AttentionKind) :
    (kinds.setWidth 15).getLsbD k.place = kinds.getLsbD k.place := by
  simp [k.place_lt]

/-- The part with the kinds made absent, the reply still to be made. -/
def State.clearKinds (s : State) (kinds : BitVec 15) : State :=
  { s with mru := { s.mru with attention := s.mru.attention &&& ~~~kinds } }

theorem State.clearKinds_has (s : State) (kinds : BitVec 15) (k : AttentionKind) :
    (s.clearKinds kinds).has k = (s.has k && !kinds.getLsbD k.place) :=
  attentionHas_and_not s.mru.attention kinds k

theorem State.serve_attentionClear (s : State) (tag : Byte) (kinds : BitVec 15) :
    s.serve tag (.attentionClear kinds) = (s.clearKinds kinds).reply tag .done [] := rfl

theorem State.serve_invalid (s : State) (tag : Byte) (status : Status) :
    s.serve tag (.invalid status) = s.reply tag status [] := rfl

/-! #### The request: refused for bit 15, carried out otherwise -/

theorem attentionClearRequest_of_undefined {kinds : BitVec 16} (h : kinds.getLsbD 15 = true) :
    attentionClearRequest kinds = .invalid .badValue :=
  if_pos h

theorem attentionClearRequest_of_defined {kinds : BitVec 16} (h : kinds.getLsbD 15 = false) :
    attentionClearRequest kinds = .attentionClear (kinds.setWidth 15) :=
  if_neg (ne_true_of_eq_false h)

theorem exec_attentionClear_of_serves {s : State} (hs : Safety.Serves s) (tag : Byte) (kinds : BitVec 16) :
    exec (.attentionClear tag kinds) s = .next (s.serve tag (attentionClearRequest kinds)) := by
  obtain ⟨hphase, hidle, hsave⟩ := hs
  change execAttentionClear tag kinds s = _
  unfold execAttentionClear
  rw [State.hand_of_serves s tag .attentionClear _ hphase hidle (.inl hsave)]

/-- Settles O49: the request is served, and bit 15 alone decides whether it is refused or its kinds are cleared. -/
theorem attentionClearRemovesNamedKinds : Obligations.AttentionClearRemovesNamedKinds := by
  intro tag kinds s hs
  rw [exec_attentionClear_of_serves hs]
  refine ⟨fun hundefined => ?refused, fun hdefined => ⟨s.clearKinds (kinds.setWidth 15), ?served, rfl, fun k => ?kind⟩⟩
  case refused => rw [attentionClearRequest_of_undefined hundefined, State.serve_invalid]
  case served => rw [attentionClearRequest_of_defined hdefined, State.serve_attentionClear]
  case kind => rw [State.clearKinds_has, getLsbD_place_setWidth]

end Sys2Proof.Machine

/-! ### The operations over the bays, by the states the statements name (chapters 1 and 2)

Each operation that takes a bay out of or into a state replaces the record of that bay and moves the sums; the equations here say which record and
which sums, so that the proofs about the commands and about the invariants do not unfold an operation. -/

namespace Sys2Proof.Machine

open Safety

/-! #### Sampling and deadlines -/

theorem State.sampling_iff (s : State) :
    s.sampling = true ↔ s.phase = .running ∨ s.phase = .resetHold ∨ s.phase = .resetLoad := by
  unfold State.sampling
  cases s.phase <;> simp

theorem State.sampling_of_running {s : State} (h : s.phase = .running) : s.sampling = true := s.sampling_iff.mpr (.inl h)

@[simp] theorem reached_some (t now : Nat) : reached (some t) now = decide (t ≤ now) := rfl
@[simp] theorem reached_none (now : Nat) : reached none now = false := rfl
@[simp] theorem elapsed_some (t ms now : Nat) : elapsed (some t) ms now = decide (t + ms ≤ now) := rfl
@[simp] theorem elapsed_none (ms now : Nat) : elapsed none ms now = false := rfl

theorem reached_iff (d : Option Nat) (now : Nat) : reached d now = true ↔ ∃ t, d = some t ∧ t ≤ now := by
  cases d <;> simp

theorem elapsed_iff (d : Option Nat) (ms now : Nat) : elapsed d ms now = true ↔ ∃ t, d = some t ∧ t + ms ≤ now := by
  cases d <;> simp

/-! #### Entries -/

theorem State.enterQueued_eq (s : State) (b : BayId) : s.enterQueued b = Requeued s b := rfl

theorem State.enterParked_eq (s : State) (b : BayId) : s.enterParked b = Parked s b := rfl

theorem State.grant_eq (s : State) (b : BayId) : s.grant b = Granted s b := rfl

/-- The sums after the bay's charges are released (R36). -/
def State.releasedPsq (s : State) (b : BayId) : Psq :=
  s.psq.release (groupOf b) s.bays[b].charge12 s.bays[b].charge5 (decide (s.bays[b].state = .ramping))

/-- The drive sources after the bay's power is off (R63). -/
def State.releasedDrives (s : State) (b : BayId) : Vector Drive 24 :=
  if s.bays[b].state = .powered then s.drives.set b Drive.clear else s.drives

/-- The part after the powered bay b has left its power for the record r. -/
def State.powerOff (s : State) (b : BayId) (r : BayRecord) : State :=
  { s with psq := s.releasedPsq b, drives := s.releasedDrives b, bays := s.bays.set b r }

theorem State.exitPower_of_live {s : State} {b : BayId} (h : s.bays[b].state.live = true) :
    s.exitPower b = s.powerOff b s.bays[b].unpowered := if_pos h

theorem State.powerOff_bay (s : State) (b : BayId) (r : BayRecord) : (s.powerOff b r).bays[b] = r := get_set_self _ _ _

theorem State.powerOff_setBay (s : State) (b : BayId) (r r' : BayRecord) : (s.powerOff b r).setBay b r' = s.powerOff b r' := by
  unfold State.powerOff State.setBay
  rw [set_set]

theorem State.exitPower_mru (s : State) (b : BayId) : (s.exitPower b).mru = s.mru := by
  unfold State.exitPower
  dsimp only
  split <;> rfl

/-! #### Exits from power -/

theorem State.releasedPsq_eq (s : State) (b : BayId) :
    s.releasedPsq b = { s.psq with
      committed12 := s.psq.committed12 - s.bays[b].charge12
      committed5 := s.psq.committed5 - s.bays[b].charge5
      branch := s.psq.branch.set (groupOf b) (s.psq.branch[groupOf b] - s.bays[b].charge12)
      rampingCount := if s.bays[b].state = .ramping then s.psq.rampingCount - 1 else s.psq.rampingCount } := by
  simp only [State.releasedPsq, Psq.release, decide_eq_true_eq]

theorem State.draining_eq (s : State) (b : BayId) (flag : Bool) :
    Draining s b flag = s.powerOff b { s.bays[b].unpowered with
      state := .removing, shedParked := flag, drainDeadline := some (s.now + (s.classOf b).drainTime * 100) } := by
  unfold State.powerOff
  rw [State.releasedPsq_eq]
  rfl

/-- An exit from power to REMOVING: the drain runs, or is over at once where the class has a drain time of 0 (R17). -/
theorem State.enterRemoving_of_live {s : State} {b : BayId} (h : s.bays[b].state.live = true) (flag : Bool) :
    s.enterRemoving b flag = if (s.classOf b).drainTime = 0 then (Draining s b flag).drained b else Draining s b flag := by
  simp only [State.enterRemoving, State.exitPower_of_live h, State.powerOff_bay, State.powerOff_setBay, State.draining_eq]

/-- The record of a powered bay after a fault (R20, R22). -/
def BayRecord.faulted (r : BayRecord) (l : Limits) (now : Nat) : BayRecord :=
  if r.retryCount < l.retryLimit then
    { r.unpowered with
      state := .powerFault, retryCount := r.retryCount + 1
      backoffDeadline := some (now + l.backoffBase * 1000 * 2 ^ r.retryCount) }
  else { r.unpowered with state := .lockedOut }

/-- The attention set after a fault of a bay of this record (R8, R20, R22). -/
def BayRecord.faultAttention (r : BayRecord) (l : Limits) (a : BitVec 15) : BitVec 15 :=
  let raised := attentionRaise (attentionRaise a .powerFault) .bayState
  if r.retryCount < l.retryLimit then raised else attentionRaise raised .lockout

theorem State.enterPowerFault_of_live {s : State} {b : BayId} (h : s.bays[b].state.live = true) :
    s.enterPowerFault b = { s.powerOff b (s.bays[b].faulted s.tables.limits s.now) with
      mru := { s.mru with attention := s.bays[b].faultAttention s.tables.limits s.mru.attention } } := by
  have hr : (s.powerOff b s.bays[b].unpowered).bays[b] = s.bays[b].unpowered := s.powerOff_bay b _
  simp only [State.enterPowerFault, State.exitPower_of_live h, State.raise_bays, State.raise_tables, hr, BayRecord.faulted,
    BayRecord.faultAttention]
  change (if s.bays[b].retryCount < s.tables.limits.retryLimit then _ else _) = _
  split
  · simp only [State.setBay, State.raise, State.powerOff, set_set]
    rfl
  · simp only [State.setBay, State.raise, State.powerOff, set_set]

/-- The record of a bay after its removal (R9). -/
def BayRecord.removed (r : BayRecord) (c : ClassId) : BayRecord :=
  { BayRecord.initial c with surprise := r.state.live, identify := r.identify, marks := r.marks }

/-- A removal releases what the bay held, if it held power, and takes it out of the queue (R9, R33, R36). -/
theorem State.enterEmpty_eq (s : State) (b : BayId) :
    s.enterEmpty b = { s with
      bays := s.bays.set b (s.bays[b].removed (s.setting b).cls)
      drives := s.releasedDrives b
      psq := { (if s.bays[b].state.live then s.releasedPsq b else s.psq) with queue := s.psq.queue.filter fun e => e.bay != b }
      mru := { s.mru with
        attention :=
          if s.bays[b].state.live then attentionRaise (attentionRaise s.mru.attention .bayState) .surpriseRemoval
          else attentionRaise s.mru.attention .bayState } } := by
  cases h : s.bays[b].state.live with
  | true =>
    have hr : (s.powerOff b s.bays[b].unpowered).bays[b] = s.bays[b].unpowered := s.powerOff_bay b _
    simp only [State.enterEmpty, State.exitPower_of_live h, h, State.raiseIf_true]
    simp only [State.leaveQueue, State.setBay, State.raise, State.powerOff, set_set, BayRecord.removed, h, get_set_self]
    rfl
  | false =>
    have hd : s.releasedDrives b = s.drives := if_neg fun hp => by rw [hp] at h; cases h
    simp only [State.enterEmpty, State.exitPower_of_not_live s h, h, State.raiseIf_false, hd, BayRecord.removed]
    rfl

/-- The part after the ramp of bay b has ended, before an owed shed is taken (R14, R47, R63). -/
def State.ramped (s : State) (b : BayId) : State :=
  { s with
    bays := s.bays.set b
      { s.bays[b] with
        state := .powered, charge12 := s.bays[b].steady12, rampDeadline := none, pgDeadline := none, retryCount := 0 }
    drives := s.drives.set b { state := .stale, value := none, reportTime := none }
    psq := { s.psq with
      committed12 := s.psq.committed12 - (s.bays[b].charge12 - s.bays[b].steady12)
      branch := s.psq.branch.set (groupOf b) (s.psq.branch[groupOf b] - (s.bays[b].charge12 - s.bays[b].steady12))
      rampingCount := s.psq.rampingCount - 1 }
    mru := { s.mru with attention := attentionRaise s.mru.attention .bayState } }

theorem State.rampEnd_eq (s : State) (b : BayId) : s.rampEnd b = (s.ramped b).shedOwed (s.zoneOf b) := rfl

theorem State.drained_eq (s : State) (b : BayId) :
    s.drained b = if s.bays[b].shedParked = true ∧ s.inHold b = false then Requeued s b else Parked s b := by
  rcases s.drained_cases b with ⟨hp, hh, h⟩ | ⟨hor, h⟩
  · rw [h, if_pos ⟨hp, hh⟩, State.enterQueued_eq]
  · rw [h, if_neg (by rcases hor with h' | h' <;> simp [-Fin.getElem_fin, h']), State.enterParked_eq]

end Sys2Proof.Machine

/-! ### The bays and the insertion state machine (chapter 1): the commands -/

namespace Sys2Proof.Machine

open Safety

/-! #### Insertion, bounce and debounce (R2, R10) -/

/-- Settles O9: each of the two rows has its three cases, by sampling and by the bay's state. -/
theorem insertionSettlesAndBounceReturns : Obligations.InsertionSettlesAndBounceReturns := by
  intro b s
  refine ⟨fun hsamp => ⟨?_, ?_⟩, fun hsamp hempty => ?_, fun hsamp hsettling => ?_⟩
  · change execQualifiedInsertion b s = _
    simp [-Fin.getElem_fin, execQualifiedInsertion, hsamp, State.setInput]
  · change execSettlingBounce b s = _
    simp [-Fin.getElem_fin, execSettlingBounce, hsamp, State.setInput]
  · change execQualifiedInsertion b s = _
    simp [-Fin.getElem_fin, execQualifiedInsertion, hsamp, hempty, State.setInput, State.setBay, BayInput.samplePres, State.now]
  · change execSettlingBounce b s = _
    simp [-Fin.getElem_fin, execSettlingBounce, hsamp, hsettling, State.setInput, State.setBay, BayInput.samplePres]

/-- Settles O10: with the debounce over the policy decides, and before that the row's condition fails. -/
theorem debounceExpiryFollowsPolicy : Obligations.DebounceExpiryFollowsPolicy := by
  intro b s start hrun hsettling hstart
  have hcond : (s.phase = .running ∧ s.bays[b].state = .settling ∧
      elapsed s.inputs[b].settleStart (s.tables.limits.insertionDebounce * 10) s.now = true) ↔
      start + s.tables.limits.insertionDebounce * 10 ≤ s.tb.now := by
    simp [-Fin.getElem_fin, hrun, hsettling, hstart, State.now]
  refine ⟨fun hover hauto => ?auto, fun hover hmanual => ?manual, fun hearly => ?early⟩
  case auto =>
    change execInsertionDebounceExpiry b s = _
    simp only [execInsertionDebounceExpiry, if_pos (hcond.mpr hover)]
    simp only [State.setting, hauto]
    rfl
  case manual =>
    change execInsertionDebounceExpiry b s = _
    simp only [execInsertionDebounceExpiry, if_pos (hcond.mpr hover)]
    simp only [State.setting, hmanual]
    rfl
  case early =>
    change execInsertionDebounceExpiry b s = _
    exact if_neg fun h => absurd (hcond.mp h) (by omega)

/-! #### Removal (R3, R9) -/

theorem BayState.removable_iff (x : BayState) : x.removable = true ↔ x ≠ .empty ∧ x ≠ .settling := by
  cases x <;> simp [BayState.removable]

/-- Settles O11: the bay leaves for EMPTY, where its record, its charges and its place in the queue are given up. -/
theorem removalClearsTheRecord : Obligations.RemovalClearsTheRecord := by
  intro b s hsamp hempty hsettling
  have hremovable : s.bays[b].state.removable = true := (BayState.removable_iff _).mpr ⟨hempty, hsettling⟩
  change execQualifiedRemoval b s = _
  simp only [execQualifiedRemoval, hsamp, hremovable, State.enterEmpty_eq, State.releasedPsq_eq, State.releasedDrives]
  rfl

/-! #### Faults (R14 to R16, R20, R22) -/

theorem BayRecord.pgSupervised_iff (r : BayRecord) :
    r.pgSupervised = true ↔ r.state = .powered ∨ (r.state = .ramping ∧ r.pgDeadline = none) := by
  simp [BayRecord.pgSupervised]

theorem BayRecord.live_of_pgSupervised {r : BayRecord} (h : r.pgSupervised = true) : r.state.live = true := by
  rcases r.pgSupervised_iff.mp h with h | ⟨h, -⟩ <;> rw [h] <;> rfl

theorem execPgDeadline_of_reached {b : BayId} {s : State} {d : Nat} (hr : s.bays[b].state = .ramping)
    (hd : s.bays[b].pgDeadline = some d) (hle : d ≤ s.tb.now) :
    execPgDeadline b s =
      if s.inputs[b].pg then .next (s.setBay b { s.bays[b] with pgDeadline := none }) else .next ((s.enterPowerFault b).afterBay true) :=
  if_pos ⟨hr, by rw [hd]; exact decide_eq_true hle⟩

/-- Settles O12: each of the three rows comes to one entry to POWER_FAULT, whose state is named by its equation. -/
theorem faultEntersPowerFaultOrLocksOut : Obligations.FaultEntersPowerFaultOrLocksOut := by
  rintro b c s (⟨rfl, hsamp, hlive⟩ | ⟨rfl, hsamp, hsup⟩ | ⟨rfl, hramp, hpg, d, hd, hle⟩)
  · have hlive1 : (s.setInput b s.inputs[b].assertFlt).bays[b].state.live = true := hlive
    refine ⟨(s.setInput b s.inputs[b].assertFlt).enterPowerFault b, ?_, ?_, ?_⟩
    · change execQualifiedFltAssertion b s = _
      simp only [execQualifiedFltAssertion, hsamp, hlive]
      rfl
    · rw [State.enterPowerFault_of_live hlive1, State.powerOff, State.releasedPsq_eq]
      rfl
    · rw [State.enterPowerFault_of_live hlive1, if_pos rfl, BayInput.assertFlt]
      change s.inputs.set b (if s.inputs[b].flt = true then _ else _) = _
      split
      · exact set_get_self _ _
      · rfl
  · have hs : s.bays[b].pgSupervised = true := (BayRecord.pgSupervised_iff _).mpr hsup
    have hlive : s.bays[b].state.live = true := BayRecord.live_of_pgSupervised hs
    let s1 := s.setInput b { s.inputs[b] with pgPin := false, pgLast := some false, pg := false }
    have hlive1 : s1.bays[b].state.live = true := hlive
    refine ⟨s1.enterPowerFault b, ?_, ?_, ?_⟩
    · change execQualifiedPgDeassertion b s = _
      simp only [execQualifiedPgDeassertion, hsamp, hs]
      rfl
    · rw [State.enterPowerFault_of_live hlive1, State.powerOff, State.releasedPsq_eq]
      rfl
    · rw [State.enterPowerFault_of_live hlive1, if_neg (by simp), if_pos rfl]
      rfl
  · have hlive : s.bays[b].state.live = true := by rw [hramp]; rfl
    refine ⟨s.enterPowerFault b, ?_, ?_, ?_⟩
    · change execPgDeadline b s = _
      rw [execPgDeadline_of_reached hramp hd hle, hpg]
      rfl
    · rw [State.enterPowerFault_of_live hlive, State.powerOff, State.releasedPsq_eq]
      rfl
    · rw [State.enterPowerFault_of_live hlive, if_neg (by simp), if_neg (by simp)]
      rfl

/-! #### Ramp end (R14, R47) -/

theorem State.rampComplete_iff (s : State) (b : BayId) :
    s.rampComplete b = true ↔
      s.bays[b].state = .ramping ∧ (∃ d, s.bays[b].rampDeadline = some d ∧ d ≤ s.tb.now) ∧ s.inputs[b].pg = true ∧
        s.inputs[b].flt = false := by
  simp only [State.rampComplete, Bool.and_eq_true, decide_eq_true_eq, reached_iff, Bool.not_eq_true', and_assoc]
  rfl

/-- Settles O13: the ramp is complete in both rows, and where one of its conditions fails the row changes nothing. -/
theorem rampEndEntersPowered : Obligations.RampEndEntersPowered := by
  refine ⟨?ends, fun b s d hramp => ⟨fun hd hle hpg => ?supervised, fun hnot => ?stays⟩⟩
  case ends =>
    rintro b c s d (⟨rfl, hpg⟩ | ⟨rfl, hsamp⟩) hramp hd hle hflt
    · have hdone : s.rampComplete b = true := (s.rampComplete_iff b).mpr ⟨hramp, ⟨d, hd, hle⟩, hpg, hflt⟩
      refine ⟨s.ramped b, ?_, rfl, rfl⟩
      change execRampDeadline b s = _
      rw [execRampDeadline, if_pos hdone, State.rampEnd_eq]
      rfl
    · let s1 := s.setInput b { s.inputs[b] with pgPin := true, pgLast := some true, pg := true }
      have hpg : s1.inputs[b] = { s.inputs[b] with pgPin := true, pgLast := some true, pg := true } := get_set_self _ _ _
      have hdone : s1.rampComplete b = true :=
        (s1.rampComplete_iff b).mpr ⟨hramp, ⟨d, hd, hle⟩, by rw [hpg], by rw [hpg]; exact hflt⟩
      refine ⟨s1.ramped b, ?_, rfl, (if_pos rfl).symm⟩
      change execQualifiedPgAssertion b s = _
      simp only [execQualifiedPgAssertion, hsamp]
      rw [if_neg (by decide), if_pos hdone, State.rampEnd_eq]
      rfl
  case supervised =>
    change execPgDeadline b s = _
    rw [execPgDeadline_of_reached hramp hd hle, if_pos hpg]
    rfl
  case stays =>
    change execRampDeadline b s = _
    refine if_neg fun hdone => ?_
    obtain ⟨-, ⟨d', hd', hle⟩, hpg, hflt⟩ := (s.rampComplete_iff b).mp hdone
    rcases hnot with h | h | ⟨h, hlt⟩
    · rw [h] at hpg; cases hpg
    · rw [h] at hflt; cases hflt
    · rw [h] at hd'; cases hd'; omega

/-! #### Levels that change alone (R1) -/

theorem BayState.not_live_of {x : BayState} (h : x.live = false) : x ≠ .ramping ∧ x ≠ .powered := by
  constructor <;> rintro rfl <;> cases h

/-- Settles O14: outside power no row's condition holds, so that the level is all that changes. -/
theorem qualifiedLevelsAloneOutsidePower : Obligations.QualifiedLevelsAloneOutsidePower := by
  intro b s pgIs fltIs
  have pgOff (hsamp : s.sampling = true) (h : s.bays[b].pgSupervised = false) : exec (.qualifiedPgDeassertion b) s = .next (pgIs false) := by
    change execQualifiedPgDeassertion b s = _
    simp only [execQualifiedPgDeassertion, hsamp, h]
    rfl
  have pgOn (hsamp : s.sampling = true) (h : (pgIs true).rampComplete b = false) : exec (.qualifiedPgAssertion b) s = .next (pgIs true) := by
    change execQualifiedPgAssertion b s = _
    simp only [execQualifiedPgAssertion, hsamp]
    rw [if_neg (by decide)]
    exact if_neg (by rw [Bool.not_eq_true]; exact h)
  have notComplete (h : ¬ ((pgIs true).bays[b].state = .ramping ∧
      (∃ d, (pgIs true).bays[b].rampDeadline = some d ∧ d ≤ (pgIs true).tb.now) ∧ (pgIs true).inputs[b].pg = true ∧
      (pgIs true).inputs[b].flt = false)) : (pgIs true).rampComplete b = false := by
    rw [← Bool.not_eq_true, State.rampComplete_iff]
    exact h
  have hflt : (pgIs true).inputs[b].flt = s.inputs[b].flt := by
    rw [show (pgIs true).inputs[b] = _ from get_set_self _ _ _]
  refine ⟨fun hsamp => ⟨?fltOff, fun hdead => ⟨?flt, ?pgOff, ?pgOn⟩, fun hramp hd => ?rampPgOff, fun hramp hor => ?rampPgOn, fun hpow => ?powPgOn⟩,
    fun hsamp => ⟨?_, ?_, ?_, ?_, ?_⟩⟩
  case fltOff =>
    change execQualifiedFltDeassertion b s = _
    simp only [execQualifiedFltDeassertion, hsamp]
    rfl
  case flt =>
    change execQualifiedFltAssertion b s = _
    simp only [execQualifiedFltAssertion, hsamp, hdead, BayInput.assertFlt]
    by_cases h : s.inputs[b].flt = true
    · simp only [h, State.setInput, if_true, set_get_self]
      rfl
    · simp only [h]
      rfl
  case pgOff => exact pgOff hsamp (by
      rw [← Bool.not_eq_true, BayRecord.pgSupervised_iff]
      simp [-Fin.getElem_fin, BayState.not_live_of hdead])
  case pgOn => exact pgOn hsamp (notComplete fun h => (BayState.not_live_of hdead).1 h.1)
  case rampPgOff => exact pgOff hsamp (by
      rw [← Bool.not_eq_true, BayRecord.pgSupervised_iff]
      simp [-Fin.getElem_fin, hramp, hd])
  case rampPgOn =>
    refine pgOn hsamp (notComplete ?_)
    rintro ⟨-, ⟨d, hd, hle⟩, -, hf⟩
    rcases hor with h | h
    · exact absurd hle (Nat.not_le.mpr (h d hd))
    · rw [hflt, h] at hf; cases hf
  case powPgOn =>
    refine pgOn hsamp (notComplete fun h => ?_)
    have hramp : s.bays[b].state = .ramping := h.1
    rw [hpow] at hramp
    cases hramp
  · change execQualifiedFltAssertion b s = _
    simp only [execQualifiedFltAssertion, hsamp]
    rfl
  · change execQualifiedFltDeassertion b s = _
    simp only [execQualifiedFltDeassertion, hsamp]
    rfl
  · change execQualifiedPgAssertion b s = _
    simp only [execQualifiedPgAssertion, hsamp]
    rfl
  · change execQualifiedPgDeassertion b s = _
    simp only [execQualifiedPgDeassertion, hsamp]
    rfl
  · change execQualifiedRemoval b s = _
    simp only [execQualifiedRemoval, hsamp]
    rfl

/-! #### The end of the drain and of the backoff (R17, R21) -/

/-- Settles O15: the row's condition holds, and the drain's end is the one the flag and the zone's HOLD give. -/
theorem drainAndBackoffExpiryLeaveTheWait : Obligations.DrainAndBackoffExpiryLeaveTheWait := by
  intro b s d hle
  have hreached {x : Option Nat} (h : x = some d) : reached x s.now = true := by rw [h]; exact decide_eq_true hle
  have hdrain (hrem : s.bays[b].state = .removing) (hd : s.bays[b].drainDeadline = some d) :
      exec (.drainExpiry b) s = .next ((s.drained b).afterBay (s.bays[b].shedParked && !s.inHold b)) :=
    if_pos ⟨hrem, hreached hd⟩
  refine ⟨fun hrem hd => ⟨fun hp hh => ?queued, fun hor => ?parked⟩, fun hrun hpf hd => ?backoff⟩
  case queued =>
    have hh' : s.inHold b = false := hh
    rw [hdrain hrem hd, State.drained_eq, if_pos ⟨hp, hh'⟩, hp, hh']
    rfl
  case parked =>
    have hnot : ¬ (s.bays[b].shedParked = true ∧ s.inHold b = false) := by
      rintro ⟨hp, hh⟩
      rcases hor with h | h
      · rw [h] at hp; cases hp
      · exact absurd (h.symm.trans hh) (by decide)
    have hfalse : (s.bays[b].shedParked && !s.inHold b) = false := by
      rw [← Bool.not_eq_true, Bool.and_eq_true, Bool.not_eq_true']
      exact hnot
    rw [hdrain hrem hd, State.drained_eq, if_neg hnot, hfalse]
    rfl
  case backoff => exact if_pos ⟨hrun, hpf, hreached hd⟩

end Sys2Proof.Machine

/-! ### Bay actions (chapters 1 and 9)

A bay action of a part that serves requests is the action on the bay, and a reply with the bay and its status code after it. -/

namespace Sys2Proof.Machine

open Safety

/-! #### Bytes as indices -/

theorem u8_toNat_of_lt {n : Nat} (h : n < 256) : (u8 n).toNat = n := by
  simp [u8, Nat.mod_eq_of_lt h]

theorem Byte.index_of_lt {n : Nat} {b : Byte} (h : b.toNat < n) : Byte.index n b = some ⟨b.toNat, h⟩ := dif_pos h

theorem Byte.index_of_le {n : Nat} {b : Byte} (h : n ≤ b.toNat) : Byte.index n b = none := dif_neg (Nat.not_lt.mpr h)

theorem Byte.index_u8 {n : Nat} (h : n ≤ 256) (i : Fin n) : Byte.index n (u8 i.val) = some i := by
  have hi : (u8 i.val).toNat = i.val := u8_toNat_of_lt (lt_of_lt_of_le i.isLt h)
  rw [Byte.index_of_lt (hi.trans_lt i.isLt)]
  exact congrArg some (Fin.ext hi)

/-! #### Requests of a part that serves -/

theorem hand_eq_serve {s : State} (hs : Serves s) (tag : Byte) (kind : RequestKind) (r : Request) :
    s.hand tag kind r = s.serve tag r := by
  obtain ⟨hrun, hidle, hsave⟩ := hs
  exact s.hand_of_serves tag kind r hrun hidle (.inl hsave)

theorem bayActionRequest_u8 (b : BayId) (code mark : Byte) :
    bayActionRequest (u8 b.val) code mark = (actionOf code mark).elim (.invalid .badValue) (.bayAction b) := by
  unfold bayActionRequest
  rw [Byte.index_u8 (by decide)]
  cases actionOf code mark <;> rfl

theorem State.serve_bayAction (s : State) (tag : Byte) (b : BayId) (a : BayAction) :
    s.serve tag (.bayAction b a) = (s.act b a).1.reply tag (s.act b a).2 [u8 b.val, u8 (s.act b a).1.bays[b].state.code] := rfl

/-! #### The power actions (R22, R23) -/

theorem parked_bay (s : State) (b : BayId) :
    (Parked s b).bays[b] = { s.bays[b] with state := .parked, drainDeadline := none, backoffDeadline := none } := get_set_self _ _ _

theorem State.setBay_bay (s : State) (b : BayId) (r : BayRecord) : (s.setBay b r).bays[b] = r := get_set_self _ _ _

theorem draining_bay (s : State) (b : BayId) (flag : Bool) :
    (Draining s b flag).bays[b] = { s.bays[b] with
      state := .removing, charge12 := 0, charge5 := 0, steady12 := 0, rampDeadline := none, pgDeadline := none, shedParked := flag
      drainDeadline := some (s.tb.now + s.tables.classes[s.bays[b].cls].drainTime * 100) } := get_set_self _ _ _

/-- A POWER_OFF under power leaves the bay draining, or PARKED where its class drains at once (R17). -/
theorem State.enterRemoving_unshed {s : State} {b : BayId} (h : s.bays[b].state.live = true) :
    s.enterRemoving b false =
      if s.tables.classes[s.bays[b].cls].drainTime = 0 then Parked (Draining s b false) b else Draining s b false := by
  rw [State.enterRemoving_of_live h, State.drained_eq, draining_bay]
  rfl

theorem BayState.eq_one_of_ten (x : BayState) :
    x = .empty ∨ x = .settling ∨ x = .presentOff ∨ x = .queued ∨ x = .ramping ∨ x = .powered ∨ x = .removing ∨ x = .parked ∨
      x = .powerFault ∨ x = .lockedOut := by
  cases x <;> decide

theorem exec_powerOn_of_serves {s : State} (hs : Serves s) (b : BayId) (tag : Byte) :
    exec (.powerOn tag (u8 b.val)) s = .next (s.serve tag (.bayAction b .powerOn)) := by
  change Host.Outcome.next (s.hand tag .bayAction (bayActionRequest (u8 b.val) 1 0)) = _
  rw [hand_eq_serve hs, bayActionRequest_u8]
  rfl

theorem exec_powerOff_of_serves {s : State} (hs : Serves s) (b : BayId) (tag : Byte) :
    exec (.powerOff tag (u8 b.val)) s = .next (s.serve tag (.bayAction b .powerOff)) := by
  change Host.Outcome.next (s.hand tag .bayAction (bayActionRequest (u8 b.val) 2 0)) = _
  rw [hand_eq_serve hs, bayActionRequest_u8]
  rfl

theorem exec_clearLockout_of_serves {s : State} (hs : Serves s) (b : BayId) (tag : Byte) :
    exec (.clearLockout tag (u8 b.val)) s = .next (s.serve tag (.bayAction b .clearLockout)) := by
  change Host.Outcome.next (s.hand tag .bayAction (bayActionRequest (u8 b.val) 3 0)) = _
  rw [hand_eq_serve hs, bayActionRequest_u8]
  rfl

/-- Settles O16: each of the three requests is its action, which the bay's state decides. -/
theorem powerActionsByState : Obligations.PowerActionsByState := by
  intro b tag s hs
  refine ⟨?on, ?off, ?clear⟩
  case on =>
    rw [exec_powerOn_of_serves hs, State.serve_bayAction]
    simp only [State.act, State.actPowerOn, State.enterQueued_eq]
    rcases s.bays[b].state.eq_one_of_ten with h | h | h | h | h | h | h | h | h | h <;> simp only [h]
  case off =>
    rw [exec_powerOff_of_serves hs, State.serve_bayAction]
    simp only [State.act, State.actPowerOff, State.enterParked_eq]
    rcases s.bays[b].state.eq_one_of_ten with h | h | h | h | h | h | h | h | h | h <;>
      simp only [h, parked_bay, State.setBay_bay, BayState.live, State.enterRemoving_unshed] <;> rfl
  case clear =>
    rw [exec_clearLockout_of_serves hs, State.serve_bayAction]
    simp only [State.act, State.actClearLockout]
    rcases s.bays[b].state.eq_one_of_ten with h | h | h | h | h | h | h | h | h | h <;> simp only [h, State.setBay_bay]
    all_goals rfl

/-! #### The identify flag and the marks (R24) -/

theorem markOf_u8 (n : Fin 3) : markOf (u8 (n.val + 1)) = some n := by
  revert n
  decide

theorem markOf_of_undefined {m : Byte} (h : m = 0 ∨ 4 ≤ m.toNat) : markOf m = none := by
  unfold markOf
  split
  · rfl
  · next hm =>
    refine Byte.index_of_le ?_
    have h4 : 4 ≤ m.toNat := h.resolve_left hm
    have h1 : (m - 1).toNat = m.toNat - 1 := BitVec.toNat_sub_of_le (by simp [BitVec.le_def]; omega)
    omega

/-- Settles O17: the action replaces the flag or the mark, so the bay's status code is the one before it. -/
theorem identifyAndMarksInEveryState : Obligations.IdentifyAndMarksInEveryState := by
  intro b tag s hs
  have hhand (code mark : Byte) : s.hand tag .bayAction (bayActionRequest (u8 b.val) code mark) =
      s.serve tag ((actionOf code mark).elim (.invalid .badValue) (.bayAction b)) := by
    rw [hand_eq_serve hs, bayActionRequest_u8]
  have hset (r : BayRecord) (hr : r.state = s.bays[b].state) :
      (s.setBay b r).reply tag .done [u8 b.val, u8 (s.setBay b r).bays[b].state.code] =
        State.reply { s with bays := s.bays.set b r } tag .done [u8 b.val, u8 s.bays[b].state.code] := by
    rw [State.setBay_bay, hr]
    rfl
  refine ⟨?_, ?_, fun n => ⟨?_, ?_⟩, fun m hm => ⟨?_, ?_⟩⟩
  · exact congrArg Host.Outcome.next ((hhand 4 0).trans (hset _ rfl))
  · exact congrArg Host.Outcome.next ((hhand 5 0).trans (hset _ rfl))
  · have ha : actionOf 6 (u8 (n.val + 1)) = some (.markSet n) := congrArg (Option.map _) (markOf_u8 n)
    exact congrArg Host.Outcome.next ((hhand 6 _).trans (by rw [ha]; exact hset _ rfl))
  · have ha : actionOf 7 (u8 (n.val + 1)) = some (.markClear n) := congrArg (Option.map _) (markOf_u8 n)
    exact congrArg Host.Outcome.next ((hhand 7 _).trans (by rw [ha]; exact hset _ rfl))
  · have ha : actionOf 6 m = none := congrArg (Option.map _) (markOf_of_undefined hm)
    exact congrArg Host.Outcome.next ((hhand 6 _).trans (by rw [ha]; rfl))
  · have ha : actionOf 7 m = none := congrArg (Option.map _) (markOf_of_undefined hm)
    exact congrArg Host.Outcome.next ((hhand 7 _).trans (by rw [ha]; rfl))

end Sys2Proof.Machine

/-! ### The power sequencer (chapter 2): the queue, the choice and the shed engine -/

namespace Sys2Proof.Machine

open Safety

/-! #### The place of a joining bay (R31) -/

/-- In an ordered queue a joining entry stands where the entries of a higher priority number begin. -/
theorem insertEntry_split (e : QueueEntry) (q : List QueueEntry) (hq : q.Pairwise fun x y => x.priority ≤ y.priority) :
    ∃ front back : List QueueEntry, q = front ++ back ∧ insertEntry e q = front ++ e :: back ∧
      (∀ x ∈ front, x.priority ≤ e.priority) ∧ ∀ x ∈ back, e.priority < x.priority := by
  induction q with
  | nil => exact ⟨[], [], rfl, rfl, by simp, by simp⟩
  | cons x xs ih =>
    obtain ⟨hx, hxs⟩ := List.pairwise_cons.mp hq
    by_cases hle : x.priority ≤ e.priority
    · obtain ⟨front, back, rfl, hins, hfront, hback⟩ := ih hxs
      refine ⟨x :: front, back, rfl, ?_, List.forall_mem_cons.mpr ⟨hle, hfront⟩, hback⟩
      rw [insertEntry, if_pos hle, hins]
      rfl
    · refine ⟨[], x :: xs, rfl, if_neg hle, by simp, List.forall_mem_cons.mpr ⟨not_le.mp hle, fun y hy => ?_⟩⟩
      exact (not_le.mp hle).trans_le (hx y hy)

theorem insertEntry_pairwise (e : QueueEntry) (q : List QueueEntry) (hq : q.Pairwise fun x y => x.priority ≤ y.priority) :
    (insertEntry e q).Pairwise fun x y => x.priority ≤ y.priority := by
  obtain ⟨front, back, rfl, hins, hfront, hback⟩ := insertEntry_split e q hq
  obtain ⟨h1, h2, h3⟩ := List.pairwise_append.mp hq
  rw [hins, List.pairwise_append]
  refine ⟨h1, List.pairwise_cons.mpr ⟨fun y hy => (hback y hy).le, h2⟩, fun x hx y hy => ?_⟩
  rcases List.mem_cons.mp hy with rfl | hy
  · exact hfront x hx
  · exact h3 x hx y hy

/-- Settles O19: the split of the queue at the joining entry's place. -/
theorem joiningBayStandsBehindItsBand : Obligations.JoiningBayStandsBehindItsBand := by
  intro e q hq
  obtain ⟨front, back, hsplit, hins, hfront, hback⟩ := insertEntry_split e q hq
  exact ⟨front, back, hsplit, hins, hfront, hback, insertEntry_pairwise e q hq⟩

/-! #### Admission and the choice (R40 to R43) -/

theorem State.staggerPassed_iff (s : State) :
    s.staggerPassed = true ↔ ∀ start, s.psq.stagger = some start → start + s.tables.limits.stagger * 10 ≤ s.tb.now := by
  unfold State.staggerPassed
  cases h : s.psq.stagger with
  | none => simp
  | some t =>
    simp only [decide_eq_true_eq, Option.some.injEq, forall_eq']
    exact Iff.rfl

theorem State.mayGrant_iff (s : State) :
    s.mayGrant = true ↔
      s.psq.rampingCount < s.tables.limits.maxRamps ∧
        (∀ start, s.psq.stagger = some start → start + s.tables.limits.stagger * 10 ≤ s.tb.now) ∧
        (s.tables.limits.autonomous = true ∨ s.linkLost = false) ∧ s.psq.quiescePending = false := by
  simp only [State.mayGrant, Bool.and_eq_true, Bool.or_eq_true, Bool.not_eq_true', decide_eq_true_eq, State.staggerPassed_iff, and_assoc]

theorem State.fits_iff (s : State) (b : BayId) : s.fits b = true ↔ Fits s b := by
  simp only [State.fits, Bool.and_eq_true, Bool.not_eq_true', decide_eq_true_eq, and_assoc]
  exact Iff.rfl

theorem State.choice_of_not_mayGrant {s : State} (h : ¬ s.mayGrant = true) : s.choice = none := if_neg h

theorem State.choice_strict {s : State} (hm : s.mayGrant = true) (ho : s.tables.limits.orderMode = .strict) (b : BayId) :
    s.choice = some b ↔ ∃ e rest, s.psq.queue = e :: rest ∧ e.bay = b ∧ Fits s b := by
  simp only [State.choice, if_pos hm, ho]
  cases hq : s.psq.queue with
  | nil => simp
  | cons e rest =>
    by_cases hf : s.fits e.bay = true
    · simp only [if_pos hf, Option.some.injEq, List.cons.injEq]
      constructor
      · rintro rfl
        exact ⟨e, rest, ⟨rfl, rfl⟩, rfl, (s.fits_iff _).mp hf⟩
      · rintro ⟨e', _, ⟨rfl, rfl⟩, rfl, -⟩
        rfl
    · simp only [if_neg hf]
      constructor
      · intro h
        cases h
      · rintro ⟨e', rest', he, rfl, hb⟩
        obtain ⟨rfl, rfl⟩ := List.cons.inj he
        exact absurd ((s.fits_iff _).mpr hb) hf

theorem State.choice_fitFirst {s : State} (hm : s.mayGrant = true) (ho : s.tables.limits.orderMode = .fitFirst) (b : BayId) :
    s.choice = some b ↔
      ∃ front e back, s.psq.queue = front ++ e :: back ∧ e.bay = b ∧ Fits s b ∧ ∀ x ∈ front, ¬ Fits s x.bay := by
  have hchoice : s.choice = (s.psq.queue.find? fun e => s.fits e.bay).map (·.bay) := by
    simp only [State.choice, if_pos hm, ho]
  rw [hchoice, Option.map_eq_some_iff]
  simp only [List.find?_eq_some_iff_append, State.fits_iff, Bool.not_eq_true', ← Bool.not_eq_true]
  constructor
  · rintro ⟨e, ⟨hfit, front, back, hq, hfront⟩, rfl⟩
    exact ⟨front, e, back, hq, rfl, hfit, hfront⟩
  · rintro ⟨front, e, back, hq, rfl, hfit, hfront⟩
    exact ⟨e, ⟨hfit, front, back, hq, hfront⟩, rfl⟩

/-- Settles O20: the queue's own conditions come first, and the order mode then says which entry is taken. -/
theorem choiceFollowsAdmissionAndOrder : Obligations.ChoiceFollowsAdmissionAndOrder := by
  intro s b
  refine ⟨?_, s.linkLost_iff⟩
  rw [← s.mayGrant_iff]
  by_cases hm : s.mayGrant = true
  · cases ho : s.tables.limits.orderMode with
    | strict => simp [State.choice_strict hm ho, hm]
    | fitFirst => simp [State.choice_fitFirst hm ho, hm]
  · simp [State.choice_of_not_mayGrant hm, hm]

/-! #### Considerations (R44) -/

/-- A grant takes the granted bay out of the queue, so that the queue is shorter after it. -/
theorem State.grant_queue_length_lt {s : State} {b : BayId} (h : s.choice = some b) :
    (s.grant b).psq.queue.length < s.psq.queue.length := by
  obtain ⟨e, he, hb⟩ := List.mem_map.mp (State.choice_some s h).2.2
  exact List.length_filter_lt_length_iff_exists.mpr ⟨e, he, by simp [hb]⟩

/-- With a stagger of 0, as many rounds as the queue has entries leave no choice. -/
theorem State.considerUpTo_choice_none (n : Nat) {s : State} (hs : s.tables.limits.stagger = 0) (hn : s.psq.queue.length ≤ n) :
    (State.considerUpTo n s).choice = none := by
  induction n generalizing s with
  | zero =>
    cases h : s.choice with
    | none => exact h
    | some b => exact absurd (State.grant_queue_length_lt h) (by omega)
  | succ n ih =>
    cases h : s.choice with
    | none => simp only [State.considerUpTo, h]
    | some b =>
      have hlt := State.grant_queue_length_lt h
      simp only [State.considerUpTo, h, if_pos hs]
      exact ih hs (by omega)

/-- With a stagger of 0, rounds beyond the queue's length change nothing. -/
theorem State.considerUpTo_succ (n : Nat) {s : State} (hs : s.tables.limits.stagger = 0) (hn : s.psq.queue.length ≤ n) :
    State.considerUpTo (n + 1) s = State.considerUpTo n s := by
  induction n generalizing s with
  | zero =>
    cases h : s.choice with
    | none => simp only [State.considerUpTo, h]
    | some b => exact absurd (State.grant_queue_length_lt h) (by omega)
  | succ n ih =>
    cases h : s.choice with
    | none => simp only [State.considerUpTo, h]
    | some b =>
      have hlt := State.grant_queue_length_lt h
      rw [State.considerUpTo, State.considerUpTo, h]
      simp only [if_pos hs]
      exact ih hs (by omega)

theorem State.consider_of_not_running {s : State} (h : s.phase ≠ .running) : s.consider = s := if_neg h

theorem State.consider_of_running {s : State} (h : s.phase = .running) : s.consider = State.considerUpTo 24 s := if_pos h

/-- With a stagger of 0 the consideration goes on after its grant. -/
theorem State.consider_of_stagger_zero {s : State} {b : BayId} (hr : s.phase = .running) (h : s.choice = some b)
    (hs : s.tables.limits.stagger = 0) (hq : s.psq.queue.length ≤ 24) : s.consider = (s.grant b).consider := by
  have hlt := State.grant_queue_length_lt h
  have hstep : State.considerUpTo 24 s = State.considerUpTo 23 (s.grant b) := by
    rw [State.considerUpTo, h]
    exact if_pos hs
  rw [State.consider_of_running hr, State.consider_of_running (s := s.grant b) hr, hstep]
  exact (State.considerUpTo_succ 23 (s := s.grant b) hs (by omega)).symm

/-- Settles O21: the row is its expiry and a consideration, and a consideration is one grant or, with a stagger of 0, grants until no choice is left. -/
theorem staggerExpiryGrantsTheChoice : Obligations.StaggerExpiryGrantsTheChoice := by
  refine ⟨?row,
    fun s hr => ⟨fun b hb => ⟨fun hs => ?one, fun hs hq => ?more⟩, fun hnone => s.consider_of_choice_none hnone, fun hs hq => ?exhausts⟩,
    fun s h => State.consider_of_not_running h⟩
  case row =>
    intro s start hr hst expired
    refine ⟨fun hlt hle => ?expires, fun hnot => ?early⟩
    case expires =>
      have hexec : exec .staggerExpiry s = .next expired.consider :=
        if_pos ⟨hr, s.staggerExpires_iff.mpr ⟨start, hst, hlt, hle⟩⟩
      refine ⟨hexec, fun b hs hb => ?_, fun hnone => ?_⟩
      · rw [hexec, State.consider_of_stagger_pos expired hr hb hs, State.grant_eq]
      · rw [hexec, State.consider_of_choice_none expired hnone]
    case early =>
      refine if_neg fun h => ?_
      obtain ⟨start', hst', hlt, hle⟩ := s.staggerExpires_iff.mp h.2
      rw [hst] at hst'
      cases hst'
      omega
  case one => rw [State.consider_of_stagger_pos s hr hb hs, State.grant_eq]
  case more => rw [State.consider_of_stagger_zero hr hb hs hq, State.grant_eq]
  case exhausts =>
    rw [State.consider_of_running hr]
    exact State.considerUpTo_choice_none 24 hs hq

/-! #### The shed candidate (R51) -/

theorem State.sheddable_iff (s : State) (z : ZoneId) (b : BayId) : s.sheddable z b = true ↔ Sheddable s z b := by
  simp only [State.sheddable, Bool.and_eq_true, decide_eq_true_eq, and_assoc]
  exact Iff.rfl

/-- Bay a is shed rather than bay b: it has the lower rank or, among equals, the higher number (R51). -/
def State.shedsBefore (s : State) (a b : BayId) : Prop :=
  (s.setting a).shedRank < (s.setting b).shedRank ∨ ((s.setting a).shedRank = (s.setting b).shedRank ∧ b ≤ a)

/-- The better of the candidate so far and a bay of higher number. -/
def State.betterShed (s : State) (best : Option BayId) (b : BayId) : Option BayId :=
  match best with
  | none => some b
  | some a => if (s.setting b).shedRank ≤ (s.setting a).shedRank then some b else some a

theorem State.shedCandidate_eq (s : State) (z : ZoneId) :
    s.shedCandidate z = ((List.finRange 24).filter (s.sheddable z)).foldl s.betterShed none := rfl

theorem State.betterShed_some (s : State) (a b : BayId) :
    s.betterShed (some a) b = some (if (s.setting b).shedRank ≤ (s.setting a).shedRank then b else a) := by
  unfold State.betterShed
  dsimp only
  split <;> rfl

/-- Over bays in ascending order, each above the candidate so far, the fold ends at one that is shed before all of them. -/
theorem State.foldl_betterShed (s : State) (l : List BayId) (a : BayId) (hsorted : (a :: l).Pairwise (· < ·)) :
    ∃ c ∈ a :: l, l.foldl s.betterShed (some a) = some c ∧ ∀ x ∈ a :: l, s.shedsBefore c x := by
  induction l generalizing a with
  | nil => exact ⟨a, by simp, rfl, by simp [State.shedsBefore]⟩
  | cons b l ih =>
    obtain ⟨ha, hl⟩ := List.pairwise_cons.mp hsorted
    have hab : a < b := ha b List.mem_cons_self
    rw [List.foldl_cons, s.betterShed_some]
    by_cases hle : (s.setting b).shedRank ≤ (s.setting a).shedRank
    · obtain ⟨c, hc, hfold, hbest⟩ := ih b hl
      rw [if_pos hle]
      refine ⟨c, List.mem_cons_of_mem _ hc, hfold, List.forall_mem_cons.mpr ⟨?_, hbest⟩⟩
      rcases hbest b List.mem_cons_self with hlt | ⟨heq, hbc⟩
      · exact .inl (hlt.trans_le hle)
      · rcases hle.lt_or_eq with hlt | heq'
        · exact .inl (heq.trans_lt hlt)
        · exact .inr ⟨heq.trans heq', hab.le.trans hbc⟩
    · rw [if_neg hle]
      have hal : (a :: l).Pairwise (· < ·) :=
        List.pairwise_cons.mpr ⟨fun x hx => ha x (List.mem_cons_of_mem _ hx), (List.pairwise_cons.mp hl).2⟩
      obtain ⟨c, hc, hfold, hbest⟩ := ih a hal
      obtain ⟨hca, hcl⟩ := List.forall_mem_cons.mp hbest
      refine ⟨c, ?_, hfold, List.forall_mem_cons.mpr ⟨hca, List.forall_mem_cons.mpr ⟨?_, hcl⟩⟩⟩
      · rcases List.mem_cons.mp hc with rfl | hc
        · exact List.mem_cons_self
        · exact List.mem_cons_of_mem _ (List.mem_cons_of_mem _ hc)
      · rcases hca with hlt | ⟨heq, -⟩
        · exact .inl (hlt.trans (not_le.mp hle))
        · exact .inl (heq.trans_lt (not_le.mp hle))

theorem sorted_filter_finRange {n : Nat} (p : Fin n → Bool) : ((List.finRange n).filter p).Pairwise (· < ·) :=
  (List.pairwise_lt_finRange n).filter p

/-- The candidate, where there is one, may be shed and is shed before every other bay that may be (R51). -/
theorem State.shedCandidate_some {s : State} {z : ZoneId} {b : BayId} (h : s.shedCandidate z = some b) :
    Sheddable s z b ∧ ∀ b' : BayId, Sheddable s z b' → s.shedsBefore b b' := by
  have hmem (x : BayId) : x ∈ (List.finRange 24).filter (s.sheddable z) ↔ Sheddable s z x := by
    rw [List.mem_filter, s.sheddable_iff]
    simp
  have hsorted := sorted_filter_finRange (s.sheddable z)
  rw [State.shedCandidate_eq] at h
  cases hl : (List.finRange 24).filter (s.sheddable z) with
  | nil => rw [hl] at h; cases h
  | cons a l =>
    rw [hl] at h hsorted hmem
    obtain ⟨c, hc, hfold, hbest⟩ := s.foldl_betterShed l a hsorted
    have hbc : b = c := Option.some.inj (h.symm.trans hfold)
    subst hbc
    exact ⟨(hmem b).mp hc, fun x hx => hbest x ((hmem x).mpr hx)⟩

theorem State.shedCandidate_eq_none_iff (s : State) (z : ZoneId) : s.shedCandidate z = none ↔ ∀ b : BayId, ¬ Sheddable s z b := by
  constructor
  · intro h b hb
    rw [State.shedCandidate_eq] at h
    have hsorted := sorted_filter_finRange (s.sheddable z)
    have hmem : b ∈ (List.finRange 24).filter (s.sheddable z) := List.mem_filter.mpr ⟨List.mem_finRange b, (s.sheddable_iff z b).mpr hb⟩
    cases hl : (List.finRange 24).filter (s.sheddable z) with
    | nil => rw [hl] at hmem; cases hmem
    | cons a l =>
      rw [hl] at h hsorted
      obtain ⟨c, -, hfold, -⟩ := s.foldl_betterShed l a hsorted
      rw [List.foldl_cons] at h
      cases h.symm.trans hfold
  · intro h
    cases hc : s.shedCandidate z with
    | none => rfl
    | some b => exact absurd (State.shedCandidate_some hc).1 (h b)

theorem State.shedsBefore_antisymm {s : State} {a b : BayId} (hab : s.shedsBefore a b) (hba : s.shedsBefore b a) : a = b := by
  rcases hab with h | ⟨h, hle⟩
  · rcases hba with h' | ⟨h', -⟩
    · exact absurd h h'.asymm
    · exact absurd h' h.ne'
  · rcases hba with h' | ⟨-, hle'⟩
    · exact absurd h h'.ne'
    · exact le_antisymm hle' hle

/-- Settles O23: what is shed before every other is unique. -/
theorem shedCandidateIsLowestRankHighestBay : Obligations.ShedCandidateIsLowestRankHighestBay := by
  intro s z b
  refine ⟨⟨fun h => State.shedCandidate_some h, fun ⟨hb, hbest⟩ => ?_⟩, s.shedCandidate_eq_none_iff z⟩
  cases hc : s.shedCandidate z with
  | none => exact absurd hb ((s.shedCandidate_eq_none_iff z).mp hc b)
  | some c =>
    obtain ⟨hcs, hcbest⟩ := State.shedCandidate_some hc
    exact congrArg some (State.shedsBefore_antisymm (hcbest b hb) (hbest c hcs))

/-! #### A shed (R50, R51) -/

theorem State.live_of_shedCandidate {s : State} {z : ZoneId} {b : BayId} (h : s.shedCandidate z = some b) : s.bays[b].state.live = true := by
  rw [(State.shedCandidate_some h).1.2.1]
  rfl

theorem State.shedBay_eq {s : State} {z : ZoneId} {b : BayId} (h : s.bays[b].state.live = true) : s.shedBay z b = Shed s z b := by
  have hlive : (s.raise .zoneShed).bays[b].state.live = true := h
  rw [State.shedBay, State.enterRemoving_of_live hlive, State.drained_eq, draining_bay]
  by_cases hd : s.tables.classes[s.bays[b].cls].drainTime = 0
  · have hd' : ((s.raise .zoneShed).classOf b).drainTime = 0 := hd
    have hpos : ¬ 0 < s.tables.classes[s.bays[b].cls].drainTime := by omega
    rw [if_pos hd', Shed]
    simp only [if_neg hpos]
    cases hh : s.zones[s.tables.baySettings[b].zone].hold with
    | true =>
      rw [if_neg fun h => absurd h.2 (by
        change ¬ s.zones[s.tables.baySettings[b].zone].hold = false
        rw [hh]
        decide)]
      rfl
    | false =>
      rw [if_pos ⟨trivial, hh⟩]
      rfl
  · have hd' : ¬ ((s.raise .zoneShed).classOf b).drainTime = 0 := hd
    have hpos : 0 < s.tables.classes[s.bays[b].cls].drainTime := by omega
    rw [if_neg hd', Shed]
    simp only [if_pos hpos]
    rfl

theorem State.shedDue_some {s : State} {z : ZoneId} {b : BayId} (h : s.shedCandidate z = some b) : s.shedDue z = Shed s z b := by
  rw [← State.shedBay_eq (State.live_of_shedCandidate h)]
  simp only [State.shedDue, h]

theorem State.shedDue_none {s : State} {z : ZoneId} (h : s.shedCandidate z = none) : s.shedDue z = s.setShed z .owed := by
  simp only [State.shedDue, h]

theorem State.shedDelayPassed_iff (s : State) (z : ZoneId) :
    s.shedDelayPassed z = true ↔ ∃ start, s.psq.shed[z] = .delay start ∧ start + s.tables.zones[z].shedDelay * 1000 ≤ s.tb.now := by
  unfold State.shedDelayPassed
  split
  · next t h =>
    rw [decide_eq_true_eq]
    simp [-Fin.getElem_fin, h, State.now]
  · next h => simpa using fun t ht => absurd ht (h t)

theorem State.shedIntervalPassed_iff (s : State) (z : ZoneId) :
    s.shedIntervalPassed z = true ↔ ∃ start, s.psq.shed[z] = .interval start ∧ start + s.tables.zones[z].shedInterval * 1000 ≤ s.tb.now := by
  unfold State.shedIntervalPassed
  split
  · next t h =>
    rw [decide_eq_true_eq]
    simp [-Fin.getElem_fin, h, State.now]
  · next h => simpa using fun t ht => absurd ht (h t)

/-- The bay of a shed whose drain is over at once has gone on, by the HOLD of its zone. -/
theorem shed_bay_of_drained {s : State} {z : ZoneId} {b : BayId} (hd : s.tables.classes[s.bays[b].cls].drainTime = 0)
    (hz : s.tables.baySettings[b].zone = z) :
    (Shed s z b).bays[b].state = (if s.zones[z].hold then .parked else .queued) ∧
      (Shed s z b).bays[b].shedParked = s.zones[z].hold := by
  subst hz
  have hpos : ¬ 0 < s.tables.classes[s.bays[b].cls].drainTime := by omega
  cases hh : s.zones[s.tables.baySettings[b].zone].hold with
  | true =>
    simp only [Shed, if_neg hpos, hh, if_true, Parked, get_set_self, Draining]
    trivial
  | false =>
    simp only [Shed, if_neg hpos, hh, Bool.false_eq_true, if_false, Requeued, get_set_self]
    trivial

/-- Settles O24: both rows come to a shed that falls due, and the candidate's drain time says how far it goes. -/
theorem shedDueTakesTheCandidate : Obligations.ShedDueTakesTheCandidate := by
  intro s z c start hr hc
  have hexec : exec c s = .next ((s.shedDue z).afterBay (s.shedCandidate z).isSome) := by
    rcases hc with ⟨rfl, hs, hle⟩ | ⟨rfl, hs, hle⟩
    · exact if_pos ⟨hr, (s.shedDelayPassed_iff z).mpr ⟨start, hs, hle⟩⟩
    · exact if_pos ⟨hr, (s.shedIntervalPassed_iff z).mpr ⟨start, hs, hle⟩⟩
  refine ⟨fun hnone => ?none, fun b hb hpos => ?drains, fun b hb hzero => ?passes⟩
  case none =>
    rw [hexec, State.shedDue_none hnone, hnone]
    rfl
  case drains =>
    have hpowered : s.bays[b].state = .powered := (State.shedCandidate_some hb).1.2.1
    rw [hexec, State.shedDue_some hb, hb, Shed]
    simp only [if_pos hpos, Draining, hpowered]
    rfl
  case passes =>
    rw [hexec, State.shedDue_some hb, hb]
    exact ⟨rfl, shed_bay_of_drained hzero (State.shedCandidate_some hb).1.1⟩

end Sys2Proof.Machine

/-! ### Start-up, temperature sources and fans: the commands of one effect (chapters 3, 4, 6 and 10) -/

namespace Sys2Proof.Machine

open Safety

/-! #### The front of the queue, RSTn, and the state after power-on reset -/

/-- Settles O1: the step reads the front command off the queue and leaves the rest. -/
theorem stepRunsFrontCommand : Obligations.StepRunsFrontCommand := fun _ _ => rfl

/-- Settles O5: each row reads the phase alone. -/
theorem rstnStartsAndAbandonsLoads : Obligations.RstnStartsAndAbandonsLoads := by
  intro s
  refine ⟨fun h => ?_, fun h => ?_, fun h => ?_⟩
  · change execRstnRelease s = _
    simp only [execRstnRelease, h]
    rfl
  · change execRstnRelease s = _
    simp only [execRstnRelease, h]
    rfl
  · change execRstnPulseDuringPowerOnLoad s = _
    simp only [execRstnPulseDuringPowerOnLoad, h]

theorem reset_powerSound : PowerSound State.reset := ⟨by decide, by decide, by decide, by decide⟩

/-- Settles O60: the state is a literal, and each part of soundness is checked on it. -/
theorem resetIsSound : Obligations.ResetIsSound :=
  ⟨reset_powerSound, by decide, by decide, by decide, by decide, by decide, by decide, by decide, by decide⟩

/-! #### Conversions (R55 to R57) -/

theorem classifyReading_of_inBand {r : Int} (hlo : -90 ≤ r) (hhi : r ≤ 260) : classifyReading r = some (max (-80) (min 250 r)) := by
  unfold classifyReading
  rw [if_neg (by omega), if_pos hhi]
  split
  · exact congrArg some (by omega)
  · split <;> exact congrArg some (by omega)

theorem classifyReading_of_outOfBand {r : Int} (h : r < -90 ∨ 260 < r) : classifyReading r = none := by
  unfold classifyReading
  rcases h with h | h
  · rw [if_pos h]
  · rw [if_neg (by omega), if_neg (by omega), if_neg (by omega), if_neg (by omega)]

theorem State.nextConversion_iff (s : State) (k : SensorId) :
    s.nextConversion k = true ↔ s.phase = .running ∧ s.converted = k.castSucc := by
  simp [State.nextConversion]

theorem exec_sensorConversion_next {s : State} {k : SensorId} (h : s.nextConversion k = true) (r : Int) :
    exec (.sensorConversion k r) s = .next
      ((s.setConversion k ((s.sensors[k]).convert r) r).raiseIf
        (decide (((s.sensors[k]).convert r).state = .failed) && decide (s.sensors[k].state ≠ .failed)) .sensorFailed) := if_pos h

/-- Settles O25: the reading is classified once, and the sensor's old state says whether its failure is new. -/
theorem conversionSetsTheSensor : Obligations.ConversionSetsTheSensor := by
  intro k r s
  refine ⟨fun hrun hconv => ?turn, fun hnot => ?outOfTurn⟩
  case turn =>
    have hnext : s.nextConversion k = true := (s.nextConversion_iff k).mpr ⟨hrun, hconv⟩
    rw [exec_sensorConversion_next hnext]
    refine ⟨fun hlo hhi => ?_, fun hout hold => ?_, fun hout hold => ?_⟩
    · simp only [Sensor.convert, classifyReading_of_inBand hlo hhi]
      rfl
    · simp only [Sensor.convert, classifyReading_of_outOfBand hout, hold, decide_true, ne_eq, not_false_eq_true, Bool.and_true,
        State.raiseIf_true]
      rfl
    · have hsame : ({ s.sensors[k] with state := .failed } : Sensor) = s.sensors[k] := by rw [← hold]
      simp only [Sensor.convert, classifyReading_of_outOfBand hout, hsame, hold, ne_eq, not_true_eq_false, decide_false, Bool.and_false,
        State.raiseIf_false, State.setConversion, set_get_self]
  case outOfTurn =>
    refine if_neg fun h => ?_
    obtain ⟨hrun, hconv⟩ := (s.nextConversion_iff k).mp h
    rcases hnot with h | h
    · exact h hrun
    · exact h hconv

/-! #### Present sources (R59, R66, R68) -/

theorem State.sensorTemperature_eq_some {s : State} {k : SensorId} {t : Int} :
    s.sensorTemperature k = some t ↔
      ∃ h, s.sensors[k].state = .ok ∧ s.sensors[k].held = some h ∧ t = max (-80) (min 250 (h + s.tables.sensors[k].offset)) := by
  unfold State.sensorTemperature
  split
  · next hok =>
    rw [Option.map_eq_some_iff]
    exact ⟨fun ⟨h, hh, ht⟩ => ⟨h, hok, hh, ht.symm⟩, fun ⟨h, _, hh, ht⟩ => ⟨h, hh, ht.symm⟩⟩
  · next hno => exact ⟨fun h => (Option.some_ne_none t h.symm).elim, fun ⟨_, hok, _⟩ => absurd hok hno⟩

theorem State.driveTemperature_eq_some {s : State} {b : BayId} {t : Int} :
    s.driveTemperature b = some t ↔ ∃ v : Nat, s.drives[b].state = .valid ∧ s.drives[b].value = some v ∧ t = 2 * (v : Int) := by
  unfold State.driveTemperature
  split
  · next hok =>
    cases s.drives[b].value with
    | none => exact ⟨fun h => (Option.some_ne_none t h.symm).elim, fun ⟨_, _, hv, _⟩ => (Option.some_ne_none _ hv.symm).elim⟩
    | some v =>
      refine ⟨fun h => ⟨v, hok, rfl, (Option.some.inj h).symm⟩, fun ⟨v', _, hv, ht⟩ => ?_⟩
      rw [ht, ← Option.some.inj hv]
      rfl
  · next hno => exact ⟨fun h => (Option.some_ne_none t h.symm).elim, fun ⟨_, hok, _⟩ => absurd hok hno⟩

/-- What a list keeps of its elements, each where a condition holds and it has a value. -/
theorem mem_filterMap_if_map {α β γ : Type} {l : List α} {p : α → Prop} [DecidablePred p] {f : α → Option β} {g : α → β → γ} {x : γ} :
    x ∈ l.filterMap (fun a => if p a then (f a).map (g a) else none) ↔ ∃ a ∈ l, p a ∧ ∃ y, f a = some y ∧ g a y = x := by
  rw [List.mem_filterMap]
  refine exists_congr fun a => and_congr_right fun _ => ?_
  by_cases h : p a <;> simp [h]

/-- Settles O29: a source is in one of the two lists, and is there by its mask or by its bay's zone. -/
theorem presentSourcesOfAZone : Obligations.PresentSourcesOfAZone := by
  intro s z x
  unfold State.presentSources
  rw [List.mem_append, mem_filterMap_if_map, mem_filterMap_if_map]
  refine or_congr ?_ ?_
  · simp only [List.mem_finRange, true_and, State.sensorTemperature_eq_some]
    constructor
    · rintro ⟨k, hmask, t, ⟨h, hok, hheld, rfl⟩, rfl⟩
      exact ⟨k, h, hmask, hok, hheld, rfl⟩
    · rintro ⟨k, h, hmask, hok, hheld, rfl⟩
      exact ⟨k, hmask, _, ⟨h, hok, hheld, rfl⟩, rfl⟩
  · simp only [List.mem_finRange, true_and, State.driveTemperature_eq_some]
    constructor
    · rintro ⟨b, hz, t, ⟨v, hok, hv, rfl⟩, rfl⟩
      exact ⟨b, v, hz, hok, hv, rfl⟩
    · rintro ⟨b, v, hz, hok, hv, rfl⟩
      exact ⟨b, hz, _, ⟨v, hok, hv, rfl⟩, rfl⟩

/-! #### Tach edges, PWM cycles and the grace (R86, R88, R90) -/

/-- Settles O32: each row's condition is met, and its effect is one fan's record. -/
theorem tachEdgePwmCycleAndGrace : Obligations.TachEdgePwmCycleAndGrace := by
  intro f s
  refine ⟨fun hrun => if_pos hrun, rfl, fun p g hrun hp hple hst hg hgle => if_pos ⟨hrun, ?_, hst, ?_⟩⟩
  · rw [hp]
    exact decide_eq_true hple
  · rw [hg]
    exact decide_eq_true hgle

/-! #### Ageing and stretches (R64, R111) -/

/-- Settles O35: each row compares one start or deadline with the time. -/
theorem oldReportsAndStretchesEnd : Obligations.OldReportsAndStretchesEnd := by
  refine fun b s => ⟨fun t0 hvalid ht0 => ⟨fun hle => ?old, fun hlt => ?young⟩, fun d hd => ⟨fun hle => ?reached, fun hlt => ?runs⟩⟩
  case old => exact if_pos ⟨hvalid, by rw [ht0]; exact decide_eq_true hle⟩
  case young =>
    refine if_neg fun h => ?_
    have hle : t0 + s.tables.link.driveAgeLimit * 1000 ≤ s.tb.now := by
      rw [ht0] at h
      exact of_decide_eq_true h.2
    omega
  case reached => exact if_pos (by rw [hd]; exact decide_eq_true hle)
  case runs =>
    refine if_neg fun h => ?_
    rw [hd] at h
    exact absurd (of_decide_eq_true h) (Nat.not_le.mpr hlt)

/-! #### The power-on reset (R188) -/

theorem Cmp.answersAfterReset_eq (c : Cmp) (count : Nat) :
    c.answersAfterReset count = AnswersAfterCycle c (Config.writeCycleMs count).val := by
  unfold Cmp.answersAfterReset AnswersAfterCycle
  cases hs : c.state <;> cases hw : c.waitStart <;> simp [isSaving]

theorem writeCycleMs_le (count : Nat) : (Config.writeCycleMs count).val ≤ 5 := Nat.le_of_lt_succ (Config.writeCycleMs count).isLt

theorem Cmp.sentWrite_of_waiting_not {c : Cmp} (h : c.waitStart = none) : c.sentWrite = none := by
  cases hw : c.sentWrite with
  | none => rfl
  | some w =>
    obtain ⟨-, start, hstart⟩ := Cmp.sentWrite_eq_some.mp hw
    rw [h] at hstart
    cases hstart

theorem Cmp.cutOff_of_none {c : Cmp} (h : c.sentWrite = none) (count : Nat) : c.cutOff count = c.mem := by
  unfold Cmp.cutOff
  rw [h]

/-- A power loss touches no byte outside the write in front of the save. -/
theorem Cmp.read_cutOff (c : Cmp) (count a : Nat)
    (h : ∀ w rest, c.state = .saving (w :: rest) → a < w.offset ∨ w.offset + w.bytes.length ≤ a) :
    Memory.read (c.cutOff count) a = Memory.read c.mem a := by
  cases hw : c.sentWrite with
  | none => rw [Cmp.cutOff_of_none hw]
  | some w =>
    obtain ⟨⟨rest, hstate⟩, -⟩ := Cmp.sentWrite_eq_some.mp hw
    unfold Cmp.cutOff
    rw [hw]
    exact Memory.read_writeLanding_outside _ _ _ (h w rest hstate)

theorem Fan.initial_pwm_high (k : Nat) : k % Fan.initial.divisorNow < Fan.initial.compareNow := Nat.mod_lt _ (by decide)

/-- Settles O4: the state is the reset's own, with what lies outside the part kept. -/
theorem powerOnResetGivesPowerOnValues : Obligations.PowerOnResetGivesPowerOnValues := by
  intro s
  refine ⟨s.powerOnReset, s.cmp.cutOff s.freeCount, (Config.writeCycleMs s.freeCount).val, writeCycleMs_le _, rfl, ?state,
    fun h => Cmp.cutOff_of_none (Cmp.sentWrite_of_waiting_not h) _, fun a h => Cmp.read_cutOff _ _ a h, fun b => ?bays, fun f k => ?fans,
    rfl, rfl, rfl, rfl, rfl⟩
  case state =>
    rw [← Cmp.answersAfterReset_eq]
    rfl
  case bays =>
    have hbay : s.powerOnReset.bays[b] = BayRecord.initial defaultTables.baySettings[b].cls := by
      rw [State.powerOnReset_bays, State.reset_bay]
    have hline : (Vector.replicate 24 Line.initial)[b] = Line.initial := get_replicate _ b
    refine ⟨s.powerOnReset_en b, by rw [hbay]; rfl, ?_, ?_⟩
    · exact congrArg Line.driven hline
    · exact congrArg Line.driven hline
  case fans =>
    have hfan : s.powerOnReset.fans[f] = Fan.initial := get_replicate (n := 6) Fan.initial f
    unfold State.fanPwm
    rw [hfan]
    exact decide_eq_true (Fan.initial_pwm_high k)

end Sys2Proof.Machine

/-! ### Management requests (chapter 9): the discipline, faulty requests, reports, LINE SETs and RESTARTs -/

namespace Sys2Proof.Machine

open Safety

/-! #### BUSY and UNKNOWN_KIND (R167, R168) -/

/-- A running part answers BUSY while it holds a RESTART, and while a save is in progress to every request but a read. -/
theorem State.hand_of_busy {s : State} (hr : s.phase = .running) (tag : Byte) (kind : RequestKind) (r : Request)
    (h : s.mru.state ≠ .idle ∨ (s.mru.saveInProgress = true ∧ kind.reads = false)) : s.hand tag kind r = s.reply tag .busy [] := by
  simp only [State.hand, if_pos hr]
  refine if_neg ?_
  rintro ⟨hidle, hor⟩
  rcases h with h | ⟨hsave, hreads⟩
  · exact h hidle
  · rcases hor with h | h
    · rw [hsave] at h; cases h
    · rw [hreads] at h; cases h

/-- Settles O50: every row hands its request to the MRU, and the discipline alone decides. -/
theorem busyAndUnknownKindAnswers : Obligations.BusyAndUnknownKindAnswers := by
  intro tag a b c d bytes pairs set16 set32 s hr
  refine ⟨fun h i hi => ?writes, fun h i hi => ?reads, fun hs => congrArg Host.Outcome.next (hand_eq_serve hs tag _ _)⟩
  case writes =>
    have hbusy (kind : RequestKind) (hk : kind.reads = false) (r : Request) : s.hand tag kind r = s.reply tag .busy [] :=
      State.hand_of_busy hr tag kind r (h.imp_right fun hsave => ⟨hsave, hk⟩)
    simp only [List.mem_cons, List.not_mem_nil, or_false] at hi
    rcases hi with rfl | rfl | rfl | rfl | rfl | rfl | rfl | rfl | rfl | rfl | rfl | rfl | rfl | rfl | rfl | rfl <;>
      exact congrArg Host.Outcome.next (hbusy _ rfl _)
  case reads =>
    have hbusy (kind : RequestKind) (r : Request) : s.hand tag kind r = s.reply tag .busy [] :=
      State.hand_of_busy hr tag kind r (.inl h)
    simp only [List.mem_cons, List.not_mem_nil, or_false] at hi
    rcases hi with rfl | rfl | rfl | rfl | rfl | rfl | rfl <;> exact congrArg Host.Outcome.next (hbusy _ _)

/-! #### Faulty bay actions and LINE SETs (R126, R173) -/

theorem bayActionRequest_of_no_bay {n : Byte} (h : 24 ≤ n.toNat) (code mark : Byte) : bayActionRequest n code mark = .invalid .badRange := by
  unfold bayActionRequest
  rw [Byte.index_of_le h]

theorem lineSetRequest_of_no_bay {baySet : BitVec 32} (h : 16777216 ≤ baySet.toNat) (lines mode level : Byte) :
    lineSetRequest baySet lines mode level = .invalid .badRange := if_pos h

theorem flagOf_of_undefined {b : Byte} (h : 2 ≤ b.toNat) : flagOf b = none := by
  unfold flagOf
  rw [if_neg, if_neg]
  · rintro rfl
    exact absurd h (by decide)
  · rintro rfl
    exact absurd h (by decide)

theorem lineSetRequest_of_undefined {baySet : BitVec 32} (hset : baySet.toNat < 16777216) {lines mode level : Byte}
    (h : lines.toNat = 0 ∨ 4 ≤ lines.toNat ∨ 2 ≤ mode.toNat ∨ 2 ≤ level.toNat) :
    lineSetRequest baySet lines mode level = .invalid .badValue := by
  unfold lineSetRequest
  rw [if_neg (Nat.not_le.mpr hset)]
  split
  · rfl
  · next hlines =>
    obtain ⟨hne, hlt⟩ := not_or.mp hlines
    rcases h with h | h | h | h
    · exact absurd (BitVec.eq_of_toNat_eq h) hne
    · exact absurd h hlt
    · rw [flagOf_of_undefined h]
    · rw [flagOf_of_undefined h]
      cases flagOf mode <;> rfl

/-- Settles O51: the request is invalid whichever action or mode it names, so its status is all that comes of it. -/
theorem faultyActionsChangeNothing : Obligations.FaultyActionsChangeNothing := by
  intro tag n m lines level baySet s hs
  have hinvalid (kind : RequestKind) {r : Request} {status : Status} (hr : r = .invalid status) :
      Host.Outcome.next (s.hand tag kind r) = (Host.Outcome.next (s.reply tag status []) : Host.Outcome State Fault Refusal) := by
    rw [hand_eq_serve hs, hr]
    rfl
  refine ⟨fun hn c hc => ?bays, fun hset => ⟨?_, ?_⟩, fun hset hbad => ⟨?_, ?_⟩⟩
  case bays =>
    simp only [List.mem_cons, List.not_mem_nil, or_false] at hc
    rcases hc with rfl | rfl | rfl | rfl | rfl | rfl | rfl <;> exact hinvalid _ (bayActionRequest_of_no_bay hn _ _)
  · exact hinvalid _ (lineSetRequest_of_no_bay hset _ _ _)
  · exact hinvalid _ (lineSetRequest_of_no_bay hset _ _ _)
  · exact hinvalid _ (lineSetRequest_of_undefined hset (hbad.imp_right (Or.imp_right .inr)))
  · exact hinvalid _ (lineSetRequest_of_undefined hset (hbad.imp_right (Or.imp_right .inr)))

/-! #### LINE SETs (R125) -/

theorem flagOf_flagByte (b : Bool) : flagOf (flagByte b) = some b := by
  cases b <;> decide

theorem lineSetRequest_of_named {lines mode level : Byte} {mb lb : Bool} (bays : BitVec 24) (hlo : lines ≠ 0) (hhi : lines.toNat < 4)
    (hmode : flagOf mode = some mb) (hlevel : flagOf level = some lb) :
    lineSetRequest (bays.setWidth 32) lines mode level =
      .lineSet bays (lines.getLsbD 0) (lines.getLsbD 1) (if mb then some lb else none) := by
  have hbays : (bays.setWidth 32).toNat < 16777216 := by
    rw [BitVec.toNat_setWidth_of_le (by decide)]
    exact bays.isLt
  have hback : (bays.setWidth 32).setWidth 24 = bays := by
    rw [BitVec.setWidth_setWidth_of_le bays (by decide), BitVec.setWidth_eq]
  unfold lineSetRequest
  rw [if_neg (Nat.not_le.mpr hbays), if_neg (not_or.mpr ⟨hlo, Nat.not_le.mpr hhi⟩), hmode, hlevel, hback]

/-- Settles O34: the lines byte names the lines by its two lowest bits, and the request's effect is that of each named line. -/
theorem lineSetDrivesNamedLines : Obligations.LineSetDrivesNamedLines := by
  intro tag bays lineA lineB level s hor hs lines
  have hlines : lines ≠ 0 ∧ lines.toNat < 4 ∧ lines.getLsbD 0 = lineA ∧ lines.getLsbD 1 = lineB := by
    revert hor
    cases lineA <;> cases lineB <;> decide
  obtain ⟨hlo, hhi, hA, hB⟩ := hlines
  have hset (mode : Byte) (mb : Bool) (hm : flagOf mode = some mb) :
      s.hand tag .lineSet (lineSetRequest (bays.setWidth 32) lines mode (flagByte level)) =
        (s.setLines bays lineA lineB (if mb then some level else none)).reply tag .done [] := by
    rw [hand_eq_serve hs, lineSetRequest_of_named bays hlo hhi hm (flagOf_flagByte level), hA, hB]
    rfl
  refine ⟨?_, ?_⟩
  · refine congrArg Host.Outcome.next ((hset 1 true rfl).trans ?_)
    simp only [State.setLines, Bool.and_eq_true, Line.set, if_true, Option.getD_some]
  · refine congrArg Host.Outcome.next ((hset 0 false rfl).trans ?_)
    simp only [State.setLines, Bool.and_eq_true, Line.set, Bool.false_eq_true, if_false, Option.getD_none]

/-! #### Temperature reports (R61, R62, R172) -/

theorem slot_unique {m : Vector (Option SlotId) 24} (hm : bayMapUnique m = true) {a b : BayId} {k : SlotId} (ha : m[a] = some k)
    (hb : m[b] = some k) : a = b := by
  unfold bayMapUnique at hm
  have h := List.all_eq_true.mp (List.all_eq_true.mp hm a (List.mem_finRange a)) b (List.mem_finRange b)
  simp only [ha, hb, Bool.or_eq_true, decide_eq_true_eq, ne_eq, not_true_eq_false, decide_false, Option.isNone_some, Bool.or_self,
    Bool.false_eq_true, or_false] at h
  exact h

/-- The bay found for a slot is one whose entry is the slot. -/
theorem State.bayOfSlot_some {s : State} {slot : Byte} {b : BayId} (h : s.bayOfSlot slot = some b) :
    ∃ k : SlotId, s.tables.bayMap[b] = some k ∧ k.val = slot.toNat := by
  have hp := List.find?_some h
  cases hm : s.tables.bayMap[b] with
  | none => rw [hm] at hp; cases hp
  | some k =>
    rw [hm] at hp
    exact ⟨k, rfl, beq_iff_eq.mp hp⟩

theorem State.bayOfSlot_of_mapped {s : State} {slot : Byte} {b : BayId} {k : SlotId} (hu : bayMapUnique s.tables.bayMap = true)
    (hb : s.tables.bayMap[b] = some k) (hk : k.val = slot.toNat) : s.bayOfSlot slot = some b := by
  cases h : s.bayOfSlot slot with
  | none =>
    have hno := List.find?_eq_none.mp h b (List.mem_finRange b)
    rw [hb] at hno
    exact absurd (beq_iff_eq.mpr hk) hno
  | some c =>
    obtain ⟨k', hc, hk'⟩ := State.bayOfSlot_some h
    have hkk : k' = k := Fin.ext (hk'.trans hk.symm)
    exact congrArg some (slot_unique hu (hkk ▸ hc) hb)

theorem temperatureReportRequest_of_pairs {ps : List (Byte × Byte)} (h1 : 1 ≤ ps.length) (h64 : ps.length ≤ 64) :
    temperatureReportRequest ps = .temperatureReport ps := if_pos ⟨h1, h64⟩

theorem temperatureReportRequest_of_count {ps : List (Byte × Byte)} (h : ps.length = 0 ∨ 64 < ps.length) :
    temperatureReportRequest ps = .invalid .badValue := if_neg (by omega)

theorem State.handAll_report {s : State} (hr : s.phase = .running) (ps : List (Byte × Byte)) :
    s.handAll (.temperatureReport ps) = s.applyReport ps := if_pos hr

theorem State.handAll_invalid (s : State) (status : Status) : s.handAll (.invalid status) = s := ite_self s

/-- Settles O26: the count decides whether the report is applied, and the bay map what each pair does. -/
theorem reportAppliesPairsInOrder : Obligations.ReportAppliesPairsInOrder := by
  refine ⟨fun tag ps s hr h1 h64 => ⟨?_, fun hs => ?_⟩, fun tag ps s hn => ⟨?_, fun hs => ?_⟩, fun p ps s => rfl,
    fun slot value b k s hu hb hk hpow => ?mapped, fun slot value s hno => ?ignored⟩
  · refine congrArg Host.Outcome.next ?_
    rw [temperatureReportRequest_of_pairs h1 h64, State.handAll_report hr]
  · refine congrArg Host.Outcome.next ?_
    rw [temperatureReportRequest_of_pairs h1 h64, hand_eq_serve hs]
    rfl
  · refine congrArg Host.Outcome.next ?_
    rw [temperatureReportRequest_of_count hn, State.handAll_invalid]
  · refine congrArg Host.Outcome.next ?_
    rw [temperatureReportRequest_of_count hn, hand_eq_serve hs]
    rfl
  case mapped =>
    change s.applyPair (slot, value) = _
    unfold State.applyPair
    rw [State.bayOfSlot_of_mapped hu hb hk]
    exact if_pos hpow
  case ignored =>
    change s.applyPair (slot, value) = s
    unfold State.applyPair
    cases h : s.bayOfSlot slot with
    | none => rfl
    | some b =>
      obtain ⟨k, hb, hk⟩ := State.bayOfSlot_some h
      exact if_neg (hno b k hb hk)

/-! #### RESTARTs (R49, R178) -/

theorem State.quiesced_iff (s : State) :
    s.quiesced = true ↔ s.psq.quiescePending = true ∧ ∀ b : BayId, s.bays[b].state ≠ .ramping ∧ s.bays[b].state ≠ .removing := by
  simp [-Fin.getElem_fin, State.quiesced, State.anyBay, not_or]

theorem State.reportQuiesce_of_quiesced {s : State} {tag : Byte} {taken : Nat} (hm : s.mru.state = .quiescing tag taken)
    (hq : s.quiesced = true) : s.reportQuiesce = s.finishRestart tag := by
  simp only [State.reportQuiesce, hm, hq, if_true]

theorem State.reportQuiesce_of_not_quiesced {s : State} (hq : s.quiesced = false) : s.reportQuiesce = s := by
  rcases s.reportQuiesce_cases with ⟨_, _, _, h, _⟩ | h
  · rw [hq] at h; cases h
  · exact h

theorem State.reportQuiesce_of_not_quiescing {s : State} (h : ∀ tag taken, s.mru.state ≠ .quiescing tag taken) : s.reportQuiesce = s := by
  rcases s.reportQuiesce_cases with ⟨tag, taken, hm, -, -⟩ | h'
  · exact absurd hm (h tag taken)
  · exact h'

theorem LinkState.carriesFrames_iff (l : LinkState) : l.carriesFrames = true ↔ l = .aligned ∨ l = .silent := by
  cases l <;> simp [LinkState.carriesFrames]

/-- The part that holds a RESTART of the QUIESCED form, before quiesce is asked for (R178). -/
def State.awaitQuiesce (s : State) (tag : Byte) : State :=
  { s with psq := { s.psq with quiescePending := true }, mru := { s.mru with state := .quiescing tag s.tb.now } }

theorem exec_restartQuiesced_of_serves {s : State} (hs : Serves s) (tag : Byte) :
    exec (.restartQuiesced tag) s = .next (s.awaitQuiesce tag).reportQuiesce :=
  congrArg Host.Outcome.next (hand_eq_serve hs tag _ _)

/-- Settles O52: a transition's end, the two forms and the limit each come to `finishRestart` or to waiting. -/
theorem restartWaitsForItsReply : Obligations.RestartWaitsForItsReply := by
  refine ⟨?ends, fun tag s hr => ⟨fun hs => congrArg Host.Outcome.next (hand_eq_serve hs tag _ _), fun hs hwait => ?waits,
    fun hs hquiet => ?quiet, fun t0 ht0 => ?limit, fun hl hn => ?queued, fun hor => ?discarded⟩⟩
  case ends =>
    intro s considers u
    have hu : s.afterBay considers = u.reportQuiesce := by cases considers <;> rfl
    rw [hu]
    refine ⟨fun tag taken hm hq hb => State.reportQuiesce_of_quiesced hm (u.quiesced_iff.mpr ⟨hq, hb⟩), ?_⟩
    rintro (h | h | ⟨b, hb⟩)
    · exact State.reportQuiesce_of_not_quiescing h
    · refine State.reportQuiesce_of_not_quiesced (Bool.eq_false_iff.mpr fun hq => ?_)
      rw [(u.quiesced_iff.mp hq).1] at h
      cases h
    · refine State.reportQuiesce_of_not_quiesced (Bool.eq_false_iff.mpr fun hq => ?_)
      have hnot := (u.quiesced_iff.mp hq).2 b
      exact hb.elim hnot.1 hnot.2
  case waits =>
    rw [exec_restartQuiesced_of_serves hs, State.reportQuiesce_of_not_quiesced (Bool.eq_false_iff.mpr fun hq => ?_)]
    · rfl
    · obtain ⟨b, hb⟩ := hwait
      have hnot := ((s.awaitQuiesce tag).quiesced_iff.mp hq).2 b
      exact hb.elim hnot.1 hnot.2
  case quiet =>
    have hq : (s.awaitQuiesce tag).quiesced = true := (s.awaitQuiesce tag).quiesced_iff.mpr ⟨rfl, hquiet⟩
    rw [exec_restartQuiesced_of_serves hs, State.reportQuiesce_of_quiesced (s := s.awaitQuiesce tag) rfl hq]
    rfl
  case limit =>
    have hexec : exec .quiesceLimit s = if t0 + 60000 ≤ s.tb.now then .next (s.finishRestart tag) else .next s := by
      change execQuiesceLimit s = _
      unfold execQuiesceLimit
      rw [ht0]
      rfl
    exact ⟨fun h => hexec.trans (if_pos h), fun h => hexec.trans (if_neg (Nat.not_le.mpr h))⟩
  case queued =>
    rcases s.finishRestart_cases tag with ⟨-, -, h⟩ | ⟨hor, -⟩
    · exact ⟨_, h, rfl⟩
    · rw [(LinkState.carriesFrames_iff _).mpr hl] at hor
      rcases hor with h | h
      · cases h
      · omega
  case discarded =>
    rcases s.finishRestart_cases tag with ⟨hc, hn, -⟩ | ⟨-, h⟩
    · rcases hor with ⟨h1, h2⟩ | h4
      · exact (((LinkState.carriesFrames_iff _).mp hc).elim h1 h2).elim
      · omega
    · exact h

end Sys2Proof.Machine

/-! ### The bay signal link (chapters 7 and 8): training, silence, loss and the ports -/

namespace Sys2Proof.Machine

open Safety

/-! #### What a consideration leaves as it is -/

theorem State.consider_eq (s : State) : s.consider = { s with bays := s.consider.bays, psq := s.consider.psq } := s.consider_frame

@[simp] theorem State.consider_phase (s : State) : s.consider.phase = s.phase := by
  rw [s.consider_eq]
@[simp] theorem State.consider_rstn (s : State) : s.consider.rstn = s.rstn := by
  rw [s.consider_eq]
@[simp] theorem State.consider_tb (s : State) : s.consider.tb = s.tb := by
  rw [s.consider_eq]
@[simp] theorem State.consider_tables (s : State) : s.consider.tables = s.tables := by
  rw [s.consider_eq]
@[simp] theorem State.consider_inputs (s : State) : s.consider.inputs = s.inputs := by
  rw [s.consider_eq]
@[simp] theorem State.consider_sensors (s : State) : s.consider.sensors = s.sensors := by
  rw [s.consider_eq]
@[simp] theorem State.consider_therm (s : State) : s.consider.therm = s.therm := by
  rw [s.consider_eq]
@[simp] theorem State.consider_converted (s : State) : s.consider.converted = s.converted := by
  rw [s.consider_eq]
@[simp] theorem State.consider_drives (s : State) : s.consider.drives = s.drives := by
  rw [s.consider_eq]
@[simp] theorem State.consider_zones (s : State) : s.consider.zones = s.zones := by
  rw [s.consider_eq]
@[simp] theorem State.consider_fans (s : State) : s.consider.fans = s.fans := by
  rw [s.consider_eq]
@[simp] theorem State.consider_smap (s : State) : s.consider.smap = s.smap := by
  rw [s.consider_eq]
@[simp] theorem State.consider_len (s : State) : s.consider.len = s.len := by
  rw [s.consider_eq]
@[simp] theorem State.consider_liu (s : State) : s.consider.liu = s.liu := by
  rw [s.consider_eq]
@[simp] theorem State.consider_mru (s : State) : s.consider.mru = s.mru := by
  rw [s.consider_eq]
@[simp] theorem State.consider_cmp (s : State) : s.consider.cmp = s.cmp := by
  rw [s.consider_eq]
@[simp] theorem State.consider_freeCount (s : State) : s.consider.freeCount = s.freeCount := by
  rw [s.consider_eq]
@[simp] theorem State.consider_pending (s : State) : s.consider.pending = s.pending := by
  rw [s.consider_eq]

@[simp] theorem State.considerIf_phase (s : State) (c : Bool) : (s.considerIf c).phase = s.phase := by cases c <;> simp [State.considerIf]
@[simp] theorem State.considerIf_rstn (s : State) (c : Bool) : (s.considerIf c).rstn = s.rstn := by cases c <;> simp [State.considerIf]
@[simp] theorem State.considerIf_tb (s : State) (c : Bool) : (s.considerIf c).tb = s.tb := by cases c <;> simp [State.considerIf]
@[simp] theorem State.considerIf_tables (s : State) (c : Bool) : (s.considerIf c).tables = s.tables := by cases c <;> simp [State.considerIf]
@[simp] theorem State.considerIf_inputs (s : State) (c : Bool) : (s.considerIf c).inputs = s.inputs := by cases c <;> simp [State.considerIf]
@[simp] theorem State.considerIf_sensors (s : State) (c : Bool) : (s.considerIf c).sensors = s.sensors := by cases c <;> simp [State.considerIf]
@[simp] theorem State.considerIf_therm (s : State) (c : Bool) : (s.considerIf c).therm = s.therm := by cases c <;> simp [State.considerIf]
@[simp] theorem State.considerIf_converted (s : State) (c : Bool) : (s.considerIf c).converted = s.converted := by cases c <;> simp [State.considerIf]
@[simp] theorem State.considerIf_drives (s : State) (c : Bool) : (s.considerIf c).drives = s.drives := by cases c <;> simp [State.considerIf]
@[simp] theorem State.considerIf_zones (s : State) (c : Bool) : (s.considerIf c).zones = s.zones := by cases c <;> simp [State.considerIf]
@[simp] theorem State.considerIf_fans (s : State) (c : Bool) : (s.considerIf c).fans = s.fans := by cases c <;> simp [State.considerIf]
@[simp] theorem State.considerIf_smap (s : State) (c : Bool) : (s.considerIf c).smap = s.smap := by cases c <;> simp [State.considerIf]
@[simp] theorem State.considerIf_len (s : State) (c : Bool) : (s.considerIf c).len = s.len := by cases c <;> simp [State.considerIf]
@[simp] theorem State.considerIf_liu (s : State) (c : Bool) : (s.considerIf c).liu = s.liu := by cases c <;> simp [State.considerIf]
@[simp] theorem State.considerIf_mru (s : State) (c : Bool) : (s.considerIf c).mru = s.mru := by cases c <;> simp [State.considerIf]
@[simp] theorem State.considerIf_cmp (s : State) (c : Bool) : (s.considerIf c).cmp = s.cmp := by cases c <;> simp [State.considerIf]
@[simp] theorem State.considerIf_freeCount (s : State) (c : Bool) : (s.considerIf c).freeCount = s.freeCount := by cases c <;> simp [State.considerIf]
@[simp] theorem State.considerIf_pending (s : State) (c : Bool) : (s.considerIf c).pending = s.pending := by cases c <;> simp [State.considerIf]

/-! #### FAULT and the loss of the link, by the states the statements name (R138, R139) -/

theorem State.becomeLost_eq (s : State) : s.becomeLost = State.consider (Lost s s.liu) := rfl

theorem State.autonomyPassed_iff (s : State) :
    s.autonomyPassed = true ↔ ∃ t, s.liu.silenceStart = some t ∧ t + s.tables.link.autonomyTimeout * 1000 ≤ s.tb.now :=
  elapsed_iff _ _ _

theorem State.enterFault_eq (s : State) :
    s.enterFault =
      if s.autonomyPassed = true then State.consider (Lost s (FaultLiu s.liu s.liu.errorCount true))
      else { s with liu := FaultLiu s.liu s.liu.errorCount false } := by
  unfold State.enterFault
  cases h : s.autonomyPassed <;> rfl

theorem Lost_mru (s : State) (l : Liu) : (Lost s l).mru = s.mru := by simp only [Lost]

theorem Faulted_mru (s : State) (count : Nat) : (Faulted s count).mru = s.mru := by
  rw [Faulted]
  by_cases ha : s.autonomyPassed = true
  · rw [if_pos ha, State.consider_mru, Lost_mru]
  · rw [if_neg ha, State.considerIf_mru]

theorem State.linkLost_consider (s : State) : s.consider.linkLost = s.linkLost := by
  simp only [State.linkLost, State.consider_liu]

theorem State.linkLost_of_link {s : State} (hlost : s.liu.link ≠ .lost) (hfault : s.liu.link ≠ .fault) : s.linkLost = false := by
  rw [Bool.eq_false_iff]
  intro h
  rcases s.linkLost_iff.mp h with h | ⟨h, -⟩
  · exact hlost h
  · exact hfault h

/-- Where the link is not lost, an entry to FAULT is the entry the statements name. -/
theorem State.enterFault_eq_faulted {s : State} (h : s.linkLost = false) : s.enterFault = Faulted s s.liu.errorCount := by
  rw [State.enterFault_eq, Faulted, h]
  rfl

theorem State.replyLost_eq (s : State) : s.replyLost = if isSending s.mru.state then s.controllerReset false else s := by
  unfold State.replyLost
  cases s.mru.state <;> rfl

/-! #### Training words (R135, R136) -/

/-- The alternation count after a further training word (R135). -/
def Liu.countAfter (l : Liu) (kind : TrainKind) (hop : BitVec 4) : Nat :=
  match l.trainWord with
  | some (k, h) => if k ≠ kind ∧ h = hop then l.alternation + 1 else 0
  | none => 0

theorem State.continueTraining_of_hop {s : State} {hop : BitVec 4} (h : hop.toNat ≤ 3) (kind : TrainKind) :
    s.continueTraining kind hop =
      { s with
        liu :=
          if 8 ≤ s.liu.countAfter kind hop then
            ({ s.liu with alternation := s.liu.countAfter kind hop, trainWord := some (kind, hop) }.answer kind hop).enterAligned hop s.now
          else { s.liu with alternation := s.liu.countAfter kind hop, trainWord := some (kind, hop) }.answer kind hop } :=
  if_neg (Nat.not_lt.mpr h)

theorem Liu.startProbe_of_position {l : Liu} {p : Fin 4} (h : l.position = some p) (now : Nat) :
    l.startProbe now = { l.portOff with port := .probing, probeStart := some now, downLane := .probing (p.val + 1) } := by
  unfold Liu.startProbe
  rw [h]
  rfl

theorem exec_trainingWord_training {s : State} (h : s.liu.link = .training) (k : TrainKind) (hop : BitVec 4) :
    exec (.trainingWord k hop) s = .next (s.continueTraining k hop) := by
  change execTrainingWord k hop s = _
  unfold execTrainingWord
  rw [h]

/-- Settles O36: the count is the one after the word, and its eighth step enters ALIGNED. -/
theorem trainingCountsAlternations : Obligations.TrainingCountsAlternations := by
  intro k k0 h h0 s hl hw count
  have hcount : s.liu.countAfter k h = count := by
    simp only [Liu.countAfter, hw, count, ne_comm, eq_comm]
  rw [exec_trainingWord_training hl]
  refine ⟨fun hhop hlt => ?counts, fun hp hge => ?aligned, fun hbig => ?fault⟩
  case counts =>
    rw [State.continueTraining_of_hop hhop, hcount, if_neg (Nat.not_le.mpr hlt)]
    rfl
  case aligned =>
    have hpos : (if hlt : h.toNat < 4 then some (⟨h.toNat, hlt⟩ : Fin 4) else s.liu.position) = some ⟨h.toNat, hp⟩ := dif_pos hp
    rw [State.continueTraining_of_hop (Nat.le_of_lt_succ hp), hcount, if_pos hge, Liu.enterAligned, Liu.startProbe_of_position hpos]
    exact congrArg (fun p => Host.Outcome.next { s with liu := { s.liu with
      link := .aligned, position := p, silenceStart := some s.tb.now, alternation := 0, trainWord := none
      answered := some (k, h), frameTaken := false, upLane := .fill, port := .probing, probeStart := some s.tb.now
      probeCount := 0, probeAnswer := none, retryDue := none, returnWatch := none, downLane := .probing (h.toNat + 1)
      forwardQueue := [] } }) hpos
  case fault =>
    have hnot : s.linkLost = false := State.linkLost_of_link (by rw [hl]; decide) (by rw [hl]; decide)
    rw [State.continueTraining, if_pos hbig, State.enterFault_eq_faulted hnot]

theorem exec_trainingWord_retrains {s : State} {k : TrainKind} {h : BitVec 4}
    (hl : s.liu.link = .listen ∨ s.liu.link = .silent ∨ s.liu.link = .lost ∨ s.liu.link = .fault ∨
      (s.liu.link = .aligned ∧ s.liu.frameTaken = true)) :
    exec (.trainingWord k h) s = .next (s.startTraining k h).replyLost := by
  change execTrainingWord k h s = _
  unfold execTrainingWord
  rcases hl with hl | hl | hl | hl | ⟨hl, hf⟩ <;> simp only [hl]
  rw [if_pos hf]

/-- A hop above 3 takes the link from wherever it is to FAULT, with one consideration at most (R135, R138, R139). -/
theorem State.startTraining_of_bad_hop {s : State} {h : BitVec 4} (hbig : 3 < h.toNat) (k : TrainKind) : s.startTraining k h = Faulted s 0 := by
  have hpassed : State.autonomyPassed { s with liu := s.liu.enterTraining k h } = s.autonomyPassed := rfl
  simp only [State.startTraining, if_pos hbig, State.enterFault_eq, hpassed, Faulted]
  cases ha : s.autonomyPassed with
  | true =>
    simp only [if_true]
    have hlost (t : State) (n : Nat) : (State.consider (Lost t (FaultLiu t.liu n true))).linkLost = true := State.linkLost_consider _
    rw [hlost, Bool.not_true, Bool.and_false]
    rfl
  | false =>
    simp only [Bool.false_eq_true, if_false]
    have hnot (l : Liu) : State.linkLost { s with liu := FaultLiu l l.errorCount false } = false := rfl
    rw [hnot, Bool.not_false, Bool.and_true]
    rfl

/-- Settles O37: the link's state says whether the word is taken, and its hop whether it ends in TRAINING or in FAULT. -/
theorem trainingWordRetrainsTheLink : Obligations.TrainingWordRetrainsTheLink := by
  intro k h s sendingEnds
  refine ⟨fun hor => ?ignored, fun hl => ⟨fun hhop => ?trains, fun hbig => ?faults⟩⟩
  case ignored =>
    change execTrainingWord k h s = _
    unfold execTrainingWord
    rcases hor with hl | ⟨hl, hf⟩
    · rw [hl]
    · rw [hl]
      exact if_neg (by rw [hf]; decide)
  case trains =>
    have hmru : (s.startTraining k h).mru = s.mru := by
      simp only [State.startTraining, if_neg (Nat.not_lt.mpr hhop), State.considerIf_mru]
    rw [exec_trainingWord_retrains hl, State.replyLost_eq, hmru]
    simp only [State.startTraining, if_neg (Nat.not_lt.mpr hhop)]
    rfl
  case faults =>
    rw [exec_trainingWord_retrains hl, State.replyLost_eq, State.startTraining_of_bad_hop hbig, Faulted_mru]

/-! #### Silence and loss (R137 to R139) -/

/-- Settles O42: each row compares the silence with its timeout, and the loss is one transition. -/
theorem silenceLeadsToLoss : Obligations.SilenceLeadsToLoss := by
  intro s t0 ht0
  have hpassed : s.autonomyPassed = true ↔ t0 + s.tables.link.autonomyTimeout * 1000 ≤ s.tb.now := by
    rw [State.autonomyPassed_iff, ht0]
    simp
  have hearly (h : s.tb.now < t0 + s.tables.link.autonomyTimeout * 1000) : ¬ s.autonomyPassed = true := by
    rw [hpassed]
    exact Nat.not_le.mpr h
  refine ⟨fun hl => ⟨fun hle => if_pos ⟨hl, ?silent⟩, fun hlt => if_neg ?early⟩, fun hl => ⟨fun hle => ⟨_, rfl, ?lost⟩, fun hlt => if_neg fun h => hearly hlt h.2⟩,
    fun hl hlatch => ⟨fun hle => if_pos ⟨hl, hlatch, hpassed.mpr hle⟩, fun hlt => if_neg fun h => hearly hlt h.2.2⟩⟩
  case silent =>
    rw [ht0]
    exact decide_eq_true hle
  case early =>
    rw [ht0]
    exact fun h => absurd (of_decide_eq_true h.2) (Nat.not_le.mpr hlt)
  case lost =>
    have hexec : exec .autonomyTimeout s =
        .next (State.replyLost (State.consider (Lost s { s.liu with link := .lost, pendingReturns := [], replyQueue := [], upLane := .idle }))) :=
      if_pos ⟨hl, hpassed.mpr hle⟩
    rw [hexec, State.replyLost_eq, State.consider_mru]
    rfl

/-! #### The downstream port (R144, R145) -/

theorem Liu.portAbsent_eq (l : Liu) (now : Nat) : l.portAbsent now = AbsentLiu l now := rfl

theorem execProbeAnswer_of_probing {s : State} {p : Fin 4} (hp : s.liu.port = .probing) (hpos : s.liu.position = some p) (kind : TrainKind)
    (hop : BitVec 4) (count : Nat)
    (hcount : count = match s.liu.probeAnswer with
      | some k => if k ≠ kind ∧ hop.toNat = p.val + 1 then s.liu.probeCount + 1 else 0
      | none => 0) :
    exec (.probeAnswer kind hop) s =
      if 8 ≤ count then .next { s with liu := s.liu.portAligned s.now }
      else .next { s with liu := { s.liu with probeAnswer := some kind, probeCount := count } } := by
  subst hcount
  change execProbeAnswer kind hop s = _
  unfold execProbeAnswer
  rw [if_pos hp, hpos]
  rfl

theorem State.acceptFrame_silent {s : State} (h : s.liu.link = .silent) :
    s.acceptFrame = { s with
      liu := { Liu.releaseProbe { s.liu with link := .aligned, silenceStart := some s.tb.now, frameTaken := true } s.tb.now with
        errorCount := s.liu.errorCount - 1 } } := by
  simp only [State.acceptFrame, h]
  rw [State.moveErrorCount_of_le _ (by rw [Liu.releaseProbe_frame]; simp)]
  rfl

/-- A probe that waits starts at the moment the link is ALIGNED again (R145). -/
theorem Liu.releaseProbe_of_due {l : Liu} {p : Fin 4} {t now : Nat} (hport : l.port = .absent) (hdue : l.retryDue = some t) (hle : t ≤ now)
    (hpos : l.position = some p) :
    l.releaseProbe now = { l.portOff with port := .probing, probeStart := some now, downLane := .probing (p.val + 1) } := by
  rw [Liu.releaseProbe, hport, hdue, ← Liu.startProbe_of_position hpos now]
  exact if_pos (by simpa using hle)

theorem Liu.releaseProbe_of_not {l : Liu} {now : Nat} (h : ¬ (l.port = .absent ∧ ∃ t, l.retryDue = some t ∧ t ≤ now)) :
    l.releaseProbe now = l := by
  refine if_neg ?_
  rw [Bool.and_eq_true, decide_eq_true_eq, reached_iff]
  exact h

theorem State.acceptFrame_silent_of_not {s : State} (h : s.liu.link = .silent)
    (hnot : ¬ (s.liu.port = .absent ∧ ∃ t, s.liu.retryDue = some t ∧ t ≤ s.tb.now)) :
    s.acceptFrame = { s with
      liu := { s.liu with link := .aligned, errorCount := s.liu.errorCount - 1, silenceStart := some s.tb.now, frameTaken := true } } := by
  have hquiet : Liu.releaseProbe { s.liu with link := .aligned, silenceStart := some s.tb.now, frameTaken := true } s.tb.now = _ :=
    Liu.releaseProbe_of_not hnot
  rw [State.acceptFrame_silent h, hquiet]

theorem State.acceptFrame_silent_of_due {s : State} (h : s.liu.link = .silent) {p : Fin 4} {t : Nat} (hport : s.liu.port = .absent)
    (hdue : s.liu.retryDue = some t) (hle : t ≤ s.tb.now) (hpos : s.liu.position = some p) :
    s.acceptFrame = { s with
      liu := { s.liu.portOff with
        link := .aligned, errorCount := s.liu.errorCount - 1, silenceStart := some s.tb.now, frameTaken := true, port := .probing
        probeStart := some s.tb.now, downLane := .probing (p.val + 1) } } := by
  have hprobe : Liu.releaseProbe { s.liu with link := .aligned, silenceStart := some s.tb.now, frameTaken := true } s.tb.now = _ :=
    Liu.releaseProbe_of_due (p := p) (t := t) hport hdue hle hpos
  rw [State.acceptFrame_silent h, hprobe]
  rfl

/-- Settles O43: an answer's count, and one comparison with the time for each of the port's timers. -/
theorem downstreamPortProbesAndWatches : Obligations.DownstreamPortProbesAndWatches := by
  refine ⟨fun k h s p hp hpos => ⟨fun hnone => ?first, fun k0 hk hor => ?restart, fun k0 hk hne hhop hlt => ?adds, fun k0 hk hne hhop hge => ?aligned⟩,
    fun s t0 hp ht hle => if_pos ⟨hp, by rw [ht]; exact decide_eq_true hle⟩,
    fun s t0 hp ht => ⟨fun hle => if_pos ⟨hp, by rw [ht]; exact decide_eq_true hle⟩, fun hlt => if_neg fun h => ?watch⟩,
    fun s t0 p hp ht hle hpos => ⟨fun hl => ?retry, fun hor => if_neg fun h => ?waits, fun hl => ?released⟩⟩
  case first =>
    rw [execProbeAnswer_of_probing hp hpos k h 0 (by rw [hnone])]
    rfl
  case restart =>
    rw [execProbeAnswer_of_probing hp hpos k h 0 (by rw [hk]; exact (if_neg fun hc => hor.elim hc.1 fun hn => hn hc.2).symm)]
    rfl
  case adds =>
    rw [execProbeAnswer_of_probing hp hpos k h (s.liu.probeCount + 1) (by rw [hk]; exact (if_pos ⟨hne, hhop⟩).symm)]
    exact if_neg (Nat.not_le.mpr hlt)
  case aligned =>
    have hexec := execProbeAnswer_of_probing hp hpos k h (s.liu.probeCount + 1) (by rw [hk]; exact (if_pos ⟨hne, hhop⟩).symm)
    have hframe := Liu.kickDown_frame { s.liu with
      port := .aligned, probeStart := none, probeCount := 0, probeAnswer := none, downLane := .idle, returnWatch := some s.now }
    refine ⟨_, hexec.trans (if_pos hge), rfl, congrArg Liu.port hframe, congrArg Liu.returnWatch hframe, fun hl hq => ?_⟩
    have hkick := Liu.kickDown_of_quiet { s.liu with
      port := .aligned, probeStart := none, probeCount := 0, probeAnswer := none, downLane := .idle, returnWatch := some s.now } hl rfl rfl
    refine (congrArg Liu.downLane hkick).trans ?_
    rw [Liu.nextDown, hl, hq]
    rfl
  case watch =>
    rw [ht] at h
    exact absurd (of_decide_eq_true h.2) (Nat.not_le.mpr hlt)
  case retry =>
    have hexec : exec .probeRetry s = .next { s with liu := s.liu.startProbe s.now } :=
      if_pos ⟨hp, hl, by rw [ht]; exact decide_eq_true hle⟩
    rw [hexec, Liu.startProbe_of_position hpos]
    rfl
  case waits =>
    rcases hor with hl | hl <;> rw [hl] at h <;> cases h.2.1
  case released =>
    have htakes : s.takesFrames = true := (LinkState.carriesFrames_iff _).mpr (.inr hl)
    have hexec : exec .upstreamFill s = .next s.acceptFrame.resumeDown := if_pos htakes
    rw [hexec, State.acceptFrame_silent_of_due hl hp ht hle hpos, State.resumeDown, Liu.kickDown_of_not _ (.inr (.inl (by simp)))]
    rfl

/-! #### Routing (R148) -/

theorem RequestKind.ofByte_eq_report_iff (k : Byte) : RequestKind.ofByte k = .temperatureReport ↔ k = 0x21 := by
  revert k
  decide

theorem State.acceptFrame_position {s : State} (hl : s.liu.link = .aligned ∨ s.liu.link = .silent) :
    s.acceptFrame.liu.position = s.liu.position := by
  rw [(s.acceptFrame_taken hl).2]

theorem exec_upstreamRequest_taken {s : State} (hl : s.liu.link = .aligned ∨ s.liu.link = .silent) (target tag kind : Byte) (payload : List Byte) :
    exec (.upstreamRequest target tag kind payload) s = .next (s.acceptFrame.routeRequest target tag kind payload).resumeDown :=
  if_pos ((LinkState.carriesFrames_iff _).mpr hl)

/-- Settles O41: the target is compared with ALL and with the position, which the taking of the frame keeps. -/
theorem requestsGoByTarget : Obligations.RequestsGoByTarget := by
  intro target tag kind payload s u p hl hpos hu forwarded request
  subst hu
  have hpos' : s.acceptFrame.liu.position = some p := (State.acceptFrame_position hl).trans hpos
  have hp := p.isLt
  have hall : target = targetAll ↔ target.toNat = 255 := by
    rw [← BitVec.toNat_inj]
    rfl
  rw [exec_upstreamRequest_taken hl]
  have hown (h : target.toNat ≠ 255) : s.acceptFrame.routeRequest target tag kind payload =
      if target.toNat = p.val then s.acceptFrame.hand tag (RequestKind.ofByte kind) request
      else if p.val < target.toNat ∧ target.toNat < 4 then
        if s.acceptFrame.liu.port = .aligned then forwarded s.acceptFrame else s.acceptFrame.unreachable tag
      else s.acceptFrame := by
    unfold State.routeRequest
    rw [if_neg (fun h' => h (hall.mp h')), hpos']
  have htoAll (h : target.toNat = 255) : s.acceptFrame.routeRequest target tag kind payload =
      if RequestKind.ofByte kind = .temperatureReport then
        if s.acceptFrame.liu.port = .aligned then forwarded (s.acceptFrame.handAll request) else s.acceptFrame.handAll request
      else s.acceptFrame := by
    unfold State.routeRequest
    rw [if_pos (hall.mpr h)]
  refine ⟨fun h => ?_, fun hlt hle hport => ?_, fun hlt hle hport => ?_, fun hor => ?_, fun h hk => ?_, fun h hk => ?_⟩
  · rw [hown (by omega), if_pos h]
  · rw [hown (by omega), if_neg (by omega), if_pos ⟨hlt, by omega⟩, if_pos hport]
  · rw [hown (by omega), if_neg (by omega), if_pos ⟨hlt, by omega⟩, if_neg hport]
    rfl
  · rw [hown (by omega), if_neg (by omega), if_neg (by omega)]
  · rw [htoAll h, if_pos ((RequestKind.ofByte_eq_report_iff kind).mpr hk)]
  · rw [htoAll h, if_neg (fun h' => hk ((RequestKind.ofByte_eq_report_iff kind).mp h'))]

/-! #### The frames of the upstream input (R132, R135, R137, R141) -/

theorem State.acceptFrame_training {s : State} (h : s.liu.link = .training) : s.acceptFrame = { s with liu := s.liu.interruptTraining } := by
  unfold State.acceptFrame
  rw [h]

theorem State.acceptFrame_ignored {s : State} (h : s.liu.link = .disabled ∨ s.liu.link = .listen ∨ s.liu.link = .lost ∨ s.liu.link = .fault) :
    s.acceptFrame = s := by
  unfold State.acceptFrame
  rcases h with h | h | h | h <;> rw [h]

theorem State.takesFrames_iff (s : State) : s.takesFrames = true ↔ s.liu.link = .aligned ∨ s.liu.link = .silent :=
  LinkState.carriesFrames_iff _

/-- Where no frame is taken, a frame does what the state of the link alone says. -/
theorem exec_frame_not_taken {s : State} (h : ¬ (s.liu.link = .aligned ∨ s.liu.link = .silent)) (n : Byte) (slots : Slots)
    (target tag kind : Byte) (payload : List Byte) :
    ∀ c ∈ [Instr.upstreamFill, .upstreamSweep n slots, .upstreamRequest target tag kind payload], exec c s = .next s.acceptFrame := by
  have ht : ¬ s.takesFrames = true := fun ht => h (s.takesFrames_iff.mp ht)
  intro c hc
  simp only [List.mem_cons, List.not_mem_nil, or_false] at hc
  rcases hc with rfl | rfl | rfl <;> exact if_neg ht

theorem exec_upstreamBadFrame_taken {s : State} (hl : s.liu.link = .aligned ∨ s.liu.link = .silent) :
    exec .upstreamBadFrame s =
      if min 256 (s.liu.errorCount + 8) = 256 then .next (s.moveErrorCount (min 256 (s.liu.errorCount + 8))).enterFault.replyLost
      else .next (s.moveErrorCount (min 256 (s.liu.errorCount + 8))) := by
  have hnot : s.liu.link ≠ .training := by rcases hl with h | h <;> rw [h] <;> decide
  change execUpstreamBadFrame s = _
  unfold execUpstreamBadFrame
  rw [if_neg hnot, if_pos (s.takesFrames_iff.mpr hl)]
  rfl

/-- The eight that carry the count to 256 raise nothing where it stood at 96 or above before. -/
theorem State.moveErrorCount_to_fault {s : State} (h : 256 ≤ s.liu.errorCount + 8) :
    s.moveErrorCount 256 = { s with liu := { s.liu with errorCount := 256 } } := by
  rw [State.moveErrorCount_eq, if_neg (by omega)]

/-- Settles O38: a frame is judged by the link's state, and the count's move by the two thresholds. -/
theorem framesMoveTheErrorCount : Obligations.FramesMoveTheErrorCount := by
  intro s n slots target tag kind payload
  refine ⟨fun hl => ?taken, fun hl => ?training, fun hl => ?ignored, fun hl hp hd => ⟨fun hq => ?_, fun f fs hq => ?_⟩, fun hor => ?_⟩
  case taken =>
    have hexec : exec .upstreamFill s = .next s.acceptFrame.resumeDown := if_pos (s.takesFrames_iff.mpr hl)
    obtain ⟨hframe, hliu⟩ := s.acceptFrame_taken hl
    refine ⟨⟨_, hexec, ?_, ?_⟩, hexec, ⟨fun hnot => ?_, fun p hwait hpos => ?_⟩, fun hlt => ?_, fun hge => ?_⟩
    · rw [State.resumeDown, hframe]
    · have hkick := Liu.kickDown_frame s.acceptFrame.liu
      unfold DownFrameOnly at hkick
      simp only [State.resumeDown]
      rw [hkick, hliu]
      exact ⟨rfl, rfl, rfl, rfl, rfl, rfl, rfl, rfl, rfl⟩
    · rcases hl with hl | hl
      · rw [State.acceptFrame_aligned _ hl, ← hl]
      · rw [State.acceptFrame_silent_of_not hl fun h => hnot ⟨hl, h⟩]
    · obtain ⟨hsil, hport, d, hd, hle⟩ := hwait
      rw [State.acceptFrame_silent_of_due hsil hport hd hle hpos]
      rfl
    · rw [exec_upstreamBadFrame_taken hl, if_neg (by omega), State.moveErrorCount_eq, Nat.min_eq_right (by omega)]
    · have hnot : State.linkLost { s with liu := { s.liu with errorCount := 256 } } = false := by
        refine State.linkLost_of_link ?_ ?_ <;> rcases hl with h | h <;> change s.liu.link ≠ _ <;> rw [h] <;> decide
      have hlost : s.linkLost = false := hnot
      have hmru (t : State) : t.enterFault.mru = t.mru := t.enterFault_mru
      rw [exec_upstreamBadFrame_taken hl, if_pos (by omega), Nat.min_eq_left (by omega), State.moveErrorCount_to_fault hge, State.replyLost_eq,
        hmru, State.enterFault_eq_faulted hnot, Faulted, Faulted, hnot, hlost]
      rfl
  case training =>
    have hnot : ¬ (s.liu.link = .aligned ∨ s.liu.link = .silent) := by rw [hl]; decide
    have hexec (c : Instr) (hc : c ∈ [Instr.trainingInterrupted, .upstreamBadFrame, .upstreamFill, .upstreamSweep n slots,
        .upstreamRequest target tag kind payload]) : exec c s = .next { s with liu := s.liu.interruptTraining } := by
      rcases List.mem_cons.mp hc with rfl | hc
      · exact if_pos hl
      rcases List.mem_cons.mp hc with rfl | hc
      · exact if_pos hl
      · rw [exec_frame_not_taken hnot n slots target tag kind payload c hc, State.acceptFrame_training hl]
    exact fun c hc => ⟨_, hexec c hc, rfl, rfl, rfl, rfl, rfl, rfl, rfl⟩
  case ignored =>
    have hnot : ¬ (s.liu.link = .aligned ∨ s.liu.link = .silent) := by rcases hl with h | h | h | h <;> rw [h] <;> decide
    have hother (c : Instr) (hc : c ∈ [Instr.upstreamFill, .upstreamSweep n slots, .upstreamRequest target tag kind payload]) :
        exec c s = .next s := by
      rw [exec_frame_not_taken hnot n slots target tag kind payload c hc, State.acceptFrame_ignored hl]
    intro c hc
    rcases List.mem_cons.mp hc with rfl | hc
    · exact hother _ List.mem_cons_self
    rcases List.mem_cons.mp hc with rfl | hc
    · have htrain : s.liu.link ≠ .training := by rcases hl with h | h | h | h <;> rw [h] <;> decide
      change execUpstreamBadFrame s = _
      unfold execUpstreamBadFrame
      rw [if_neg htrain, if_neg fun h => hnot (s.takesFrames_iff.mp h)]
    · exact hother c (List.mem_cons_of_mem _ hc)
  · rw [State.resumeDown, Liu.kickDown_of_quiet _ hl hp hd, Liu.nextDown, if_pos hl]
    simp only [hq]
  · rw [State.resumeDown, Liu.kickDown_of_quiet _ hl hp hd, Liu.nextDown, if_pos hl, hq]
  · rw [State.resumeDown, Liu.kickDown_of_not _ hor]

end Sys2Proof.Machine

/-! ### Returns, replies, sweeps and the lanes (sections 7.5, 7.6, 8.2 to 8.4) -/

namespace Sys2Proof.Machine

open Safety

/-! #### The part's own slots of a return (R160) -/

theorem State.fillSlots_eq (s : State) (slots : Slots) :
    s.fillSlots slots = (List.finRange 24).foldl (fun v b => (s.tables.bayMap[b]).elim v fun k => v.set k (s.slotByte b)) slots := by
  unfold State.fillSlots
  congr
  funext v b
  cases s.tables.bayMap[b] <;> rfl

/-- One bay's turn of the filling. -/
theorem get_elim_set (m : Option SlotId) (x : Byte) (v : Slots) (k : SlotId) :
    (m.elim v fun i => v.set i x)[k] = if m = some k then x else v[k] := by
  cases m with
  | none => simp
  | some i =>
    change (v.set i x)[k] = _
    rw [get_set]
    by_cases h : k = i
    · simp [h]
    · rw [if_neg h, if_neg fun h' => h (Option.some.inj h').symm]

theorem foldl_fill_other (m : BayId → Option SlotId) (g : BayId → Byte) (k : SlotId) (bays : List BayId) (v : Slots)
    (h : ∀ b ∈ bays, m b ≠ some k) : (bays.foldl (fun v b => (m b).elim v fun i => v.set i (g b)) v)[k] = v[k] := by
  induction bays generalizing v with
  | nil => rfl
  | cons b bays ih =>
    rw [List.foldl_cons, ih _ fun x hx => h x (List.mem_cons_of_mem _ hx), get_elim_set, if_neg (h b List.mem_cons_self)]

theorem foldl_fill_own (m : BayId → Option SlotId) (g : BayId → Byte) {k : SlotId} {b : BayId} (hb : m b = some k)
    (hunique : ∀ x, m x = some k → x = b) (bays : List BayId) (v : Slots) (hmem : b ∈ bays) :
    (bays.foldl (fun v b => (m b).elim v fun i => v.set i (g b)) v)[k] = g b := by
  induction bays using List.reverseRecOn with
  | nil => cases hmem
  | append_singleton bays x ih =>
    rw [List.foldl_append, List.foldl_cons, List.foldl_nil, get_elim_set]
    by_cases hx : m x = some k
    · rw [if_pos hx, hunique x hx]
    · rw [if_neg hx]
      refine ih ((List.mem_append.mp hmem).resolve_right fun h => hx ?_)
      rw [← List.mem_singleton.mp h, hb]

theorem State.toNat_slotByte (s : State) (b : BayId) :
    (s.slotByte b).toNat = s.bays[b].state.code + if s.drives[b].state = .stale then 128 else 0 := by
  have hcode : s.bays[b].state.code < 10 := by cases s.bays[b].state <;> decide
  simp only [State.slotByte, State.temperatureWanted, u8, BitVec.toNat_ofNat, decide_eq_true_eq]
  split <;> omega

/-- Settles O40: the filling goes over the bays, and a slot that the bay map gives out once is written once. -/
theorem returnSlotsCarryStatusCodes : Obligations.ReturnSlotsCarryStatusCodes := by
  intro s slots hunique
  refine ⟨fun b k hb => ?own, fun k hk => ?other, rfl⟩
  case own =>
    rw [s.fillSlots_eq,
      foldl_fill_own (fun b => s.tables.bayMap[b]) s.slotByte hb (fun x hx => slot_unique hunique hx hb) _ _ (List.mem_finRange b),
      s.toNat_slotByte]
  case other => rw [s.fillSlots_eq, foldl_fill_other (fun b => s.tables.bayMap[b]) s.slotByte k _ _ fun b _ => hk b]

/-! #### The lanes (R146, R149, R150) -/

theorem carriesFrames_eq_false {l : LinkState} (h : l ≠ .aligned ∧ l ≠ .silent) : l.carriesFrames = false := by
  rw [Bool.eq_false_iff]
  exact fun hc => ((LinkState.carriesFrames_iff l).mp hc).elim h.1 h.2

theorem Liu.nextUp_of_pending {l : Liu} {x : ReturnFrame} {xs : List ReturnFrame} (h : l.pendingReturns = x :: xs) :
    l.nextUp = { l with upLane := .ret x, pendingReturns := xs } := by
  simp only [Liu.nextUp, h]

theorem Liu.nextUp_of_reply {l : Liu} {q : ReplyFrame} {qs : List ReplyFrame} (h : l.pendingReturns = []) (hq : l.replyQueue = q :: qs) :
    l.nextUp = { l with upLane := .reply q, replyQueue := qs } := by
  simp only [Liu.nextUp, h, hq]

theorem Liu.nextDown_of_waiting {l : Liu} {f : DownFrame} {fs : List DownFrame} (hl : l.link = .aligned) (h : l.forwardQueue = f :: fs) :
    l.nextDown = { l with downLane := .frame f, forwardQueue := fs } := by
  rw [Liu.nextDown, if_pos hl, h]

theorem Liu.nextDown_of_empty {l : Liu} (hl : l.link = .aligned) (h : l.forwardQueue = []) : l.nextDown = { l with downLane := .fill } := by
  rw [Liu.nextDown, if_pos hl]
  simp only [h]

theorem exec_returnLaneFrameEnd_of_frame {s : State} (hl : s.liu.link = .aligned ∨ s.liu.link = .silent)
    (h : s.liu.upLane = .fill ∨ (∃ r, s.liu.upLane = .ret r) ∨ ∃ q, s.liu.upLane = .reply q ∧ q.restart = false) :
    exec .returnLaneFrameEnd s = .next { s with liu := s.liu.nextUp } := by
  change execReturnLaneFrameEnd s = _
  unfold execReturnLaneFrameEnd
  rw [if_pos ((LinkState.carriesFrames_iff _).mpr hl)]
  rcases h with h | ⟨r, h⟩ | ⟨q, h, hq⟩
  · rw [h]
  · rw [h]
  · rw [h]
    exact if_neg (by rw [hq]; decide)

theorem exec_downstreamLaneFrameEnd_of_frame {s : State} (hp : s.liu.port = .aligned)
    (h : s.liu.downLane = .fill ∨ ∃ f, s.liu.downLane = .frame f) :
    exec .downstreamLaneFrameEnd s = .next { s with liu := s.liu.nextDown } := by
  change execDownstreamLaneFrameEnd s = _
  unfold execDownstreamLaneFrameEnd
  rw [if_pos hp]
  rcases h with h | ⟨f, h⟩ <;> rw [h]

/-- Settles O45: the lanes' rules, by what waits. -/
theorem lanesTakeTheNextFrame : Obligations.LanesTakeTheNextFrame := by
  refine ⟨fun s tag status payload => ?reply, rfl, fun l r => ⟨fun h => ?replyLost, fun hl hn => ?replyJoins⟩,
    fun l r => ⟨fun h => ?returnLost, fun hl hn => ?returnJoins⟩, fun s u hl hu => ?up, fun s hp hd => ?down⟩
  case reply =>
    unfold State.reply
    cases s.liu.position <;> rfl
  case replyLost =>
    rcases h with h | h
    · exact l.pushReply_of_quiet (carriesFrames_eq_false h)
    · exact l.pushReply_of_full h
  case replyJoins =>
    have hc := (LinkState.carriesFrames_iff _).mpr hl
    refine ⟨fun hb => l.pushReply_of_busy hc hn hb, fun x xs hi hx => ?_, fun q qs hi hx hq => ?_⟩
    · refine (l.pushReply_of_idle hc hn hi).trans ?_
      exact Liu.nextUp_of_pending hx
    · refine (l.pushReply_of_idle hc hn hi).trans ?_
      exact Liu.nextUp_of_reply hx hq
  case returnLost =>
    rcases h with h | h
    · exact l.pendReturn_of_quiet (carriesFrames_eq_false h)
    · exact l.pendReturn_of_full h
  case returnJoins =>
    have hc := (LinkState.carriesFrames_iff _).mpr hl
    refine ⟨fun hb => l.pendReturn_of_busy hc hn hb, fun x xs hi hx => ?_⟩
    refine (l.pendReturn_of_idle hc hn hi).trans ?_
    exact Liu.nextUp_of_pending hx
  case up =>
    have hu' : u = { s with liu := s.liu.nextUp } := hu
    refine ⟨fun h => ?_, fun q tag hq hr hm => ?_⟩
    · rw [hu', exec_returnLaneFrameEnd_of_frame hl h]
    · change execReturnLaneFrameEnd s = _
      unfold execReturnLaneFrameEnd
      rw [if_pos ((LinkState.carriesFrames_iff _).mpr hl), hq, hu']
      simp only [hr, if_true, State.replyLost, hm]
  case down =>
    rw [exec_downstreamLaneFrameEnd_of_frame hp hd]
    refine ⟨fun f fs hl hf => ?_, fun hl hf => ?_, fun hl => ?_⟩
    · rw [Liu.nextDown_of_waiting hl hf]
    · rw [Liu.nextDown_of_empty hl hf]
    · rw [Liu.nextDown, if_neg hl]

/-! #### Entries given up (R158) -/

theorem attentionHas_raise (a : BitVec 15) (k : AttentionKind) : attentionHas (attentionRaise a k) k = true := by
  unfold attentionHas attentionRaise
  cases k <;> simp [AttentionKind.place]

theorem attentionAny_raise (a : BitVec 15) (k : AttentionKind) : attentionAny (attentionRaise a k) = true := by
  refine decide_eq_true fun h => ?_
  have hhas := attentionHas_raise a k
  rw [h] at hhas
  revert hhas
  cases k <;> decide

theorem attentionRaise_twice (a : BitVec 15) (k : AttentionKind) : attentionRaise (attentionRaise a k) k = attentionRaise a k := by
  rw [attentionRaise, attentionRaise, BitVec.or_assoc, BitVec.or_self]

/-- The return that the part originates for an entry it gives up: its attention set holds RETURN_MISSING by then (R158, R159). -/
def State.missing (s : State) (e : Outstanding) : ReturnFrame :=
  { number := e.number, attention := true, originator := positionByte s.liu.position, slots := s.fillSlots (Vector.replicate 128 0x0F) }

/-- A return that becomes pending touches no entry of the outstanding sweep list. -/
theorem Liu.pendReturn_outstanding (l : Liu) (es : List Outstanding) (r : ReturnFrame) :
    Liu.pendReturn { l with outstanding := es } r = { l.pendReturn r with outstanding := es } := by
  unfold Liu.pendReturn
  by_cases hc : (l.link.carriesFrames && decide (l.pendingReturns.length < Config.pendingReturnsMax)) = true
  · rw [if_pos hc, if_pos hc]
    unfold Liu.kickUp
    by_cases hk : (l.link.carriesFrames && decide (l.upLane = .idle)) = true
    · rw [if_pos hk, if_pos hk]
      unfold Liu.nextUp
      cases hr : l.pendingReturns ++ [r] with
      | nil => simp at hr
      | cons x xs => rfl
    · rw [if_neg hk, if_neg hk]
  · rw [if_neg hc, if_neg hc]

theorem Liu.pendReturn_position (l : Liu) (r : ReturnFrame) : (l.pendReturn r).position = l.position := by
  rw [l.pendReturn_frame r]

theorem State.giveUp_cons {s : State} {e : Outstanding} {rest : List Outstanding} (h : s.liu.outstanding = e :: rest) :
    s.giveUp = { s with
      liu := { s.liu.pendReturn (s.missing e) with outstanding := rest }
      mru := { s.mru with attention := attentionRaise s.mru.attention .returnMissing } } := by
  rw [← Liu.pendReturn_outstanding]
  simp only [State.giveUp, h, State.raise, State.originate, State.originated, attentionAny_raise]
  rfl

theorem State.fillSlots_congr {s t : State} (ht : t.tables = s.tables) (hb : t.bays = s.bays) (hd : t.drives = s.drives) (slots : Slots) :
    t.fillSlots slots = s.fillSlots slots := by
  simp only [State.fillSlots_eq, State.slotByte, State.temperatureWanted, ht, hb, hd]
  rfl

theorem State.missing_congr {s t : State} (ht : t.tables = s.tables) (hb : t.bays = s.bays) (hd : t.drives = s.drives)
    (hp : t.liu.position = s.liu.position) (e : Outstanding) : t.missing e = s.missing e := by
  rw [State.missing, State.missing, State.fillSlots_congr ht hb hd, hp]

theorem State.originated_congr {s t : State} (ht : t.tables = s.tables) (hb : t.bays = s.bays) (hd : t.drives = s.drives)
    (hp : t.liu.position = s.liu.position) (hm : t.mru = s.mru) (n : Byte) : t.originated n = s.originated n := by
  rw [State.originated, State.originated, State.fillSlots_congr ht hb hd, hp, hm]

/-- The returns of several entries given up, oldest first. -/
def State.missingPended (s : State) (es : List Outstanding) (l : Liu) : Liu := es.foldl (fun l e => l.pendReturn (s.missing e)) l

theorem State.missingPended_outstanding (s : State) (es rest : List Outstanding) (l : Liu) :
    s.missingPended es { l with outstanding := rest } = { s.missingPended es l with outstanding := rest } := by
  induction es generalizing l with
  | nil => rfl
  | cons e es ih => exact (congrArg (s.missingPended es) (l.pendReturn_outstanding rest _)).trans (ih _)

theorem UpFrame.trans {l l' m : Liu} (h : UpFrame l l') (h' : UpFrame l' m) : UpFrame l m := by
  unfold UpFrame at *
  rw [h] at h'
  exact h'

theorem State.missingPended_frame (s : State) (es : List Outstanding) (l : Liu) : UpFrame l (s.missingPended es l) := by
  induction es generalizing l with
  | nil => rfl
  | cons e es ih => exact (l.pendReturn_frame (s.missing e)).trans (ih _)

/-- Entries given up together leave the list, each with its return. -/
theorem State.giveUpMany_eq (e : Outstanding) (es rest : List Outstanding) (s : State) (h : s.liu.outstanding = e :: es ++ rest) :
    State.giveUpMany (es.length + 1) s = { s with
      liu := { s.missingPended (e :: es) s.liu with outstanding := rest }
      mru := { s.mru with attention := attentionRaise s.mru.attention .returnMissing } } := by
  induction es generalizing s e with
  | nil => exact State.giveUp_cons h
  | cons e' es ih =>
    have hgive := State.giveUp_cons h
    have hmissing (x : Outstanding) : s.giveUp.missing x = s.missing x := by
      refine State.missing_congr (by rw [hgive]) (by rw [hgive]) (by rw [hgive]) ?_ x
      rw [hgive]
      exact s.liu.pendReturn_position (s.missing e)
    have hpended (l : Liu) : s.giveUp.missingPended (e' :: es) l = s.missingPended (e' :: es) l := by
      simp only [State.missingPended, hmissing]
    rw [State.giveUpMany, List.length_cons, ih e' s.giveUp (by rw [hgive]; rfl), hpended, hgive]
    simp only [State.missingPended_outstanding, attentionRaise_twice]
    rfl

/-- Behind a busy return lane, returns given up that all find room wait behind those that wait. -/
theorem State.missingPended_of_busy (s : State) (es : List Outstanding) (l : Liu) (hc : l.link.carriesFrames = true) (hb : l.upLane ≠ .idle)
    (hn : l.pendingReturns.length + es.length ≤ 3) :
    s.missingPended es l = { l with pendingReturns := l.pendingReturns ++ es.map s.missing } := by
  induction es generalizing l with
  | nil => simp [State.missingPended]
  | cons e es ih =>
    rw [List.length_cons] at hn
    have hone := l.pendReturn_of_busy (r := s.missing e) hc (by omega) hb
    change s.missingPended es (l.pendReturn (s.missing e)) = _
    rw [hone]
    refine (ih { l with pendingReturns := l.pendingReturns ++ [s.missing e] } hc hb (by simp; omega)).trans ?_
    simp

/-! #### The return input and the deadlines (R147, R158, R161, R162) -/

theorem outstandingPlace_of_absent {n : Byte} {l : List Outstanding} (h : ∀ e ∈ l, e.number ≠ n) : outstandingPlace n l = none := by
  rw [outstandingPlace, List.findIdx?_eq_none_iff]
  exact fun e he => beq_eq_false_iff_ne.mpr (h e he)

theorem outstandingPlace_of_split {n : Byte} {old young : List Outstanding} {e : Outstanding} (he : e.number = n)
    (hold : ∀ x ∈ old, x.number ≠ n) : outstandingPlace n (old ++ e :: young) = some old.length := by
  have hnone : old.findIdx? (fun x => x.number == n) = none := outstandingPlace_of_absent hold
  simp [outstandingPlace, List.findIdx?_append, hnone, List.findIdx?_cons, he]

/-- The part with the return watch restarted (R147). -/
def State.watched (s : State) : State := { s with liu := { s.liu with returnWatch := some s.tb.now } }

theorem exec_downstreamReturn_of_aligned {s : State} (hp : s.liu.port = .aligned) (n : Byte) (att : Bool) (o : Byte) (slots : Slots) :
    exec (.downstreamReturn n att o slots) s = .next (s.watched.matchReturn ⟨n, att, o, slots⟩) :=
  if_pos hp

theorem State.matchReturn_of_absent {s : State} {r : ReturnFrame} (h : ∀ e ∈ s.liu.outstanding, e.number ≠ r.number) : s.matchReturn r = s := by
  rw [State.matchReturn, outstandingPlace_of_absent h]

theorem State.matchReturn_of_place {s : State} {r : ReturnFrame} {k : Nat} (h : outstandingPlace r.number s.liu.outstanding = some k) :
    s.matchReturn r = { State.giveUpMany k s with
      liu := Liu.pendReturn { (State.giveUpMany k s).liu with outstanding := (State.giveUpMany k s).liu.outstanding.drop 1 }
        { r with
          attention := r.attention || attentionAny (State.giveUpMany k s).mru.attention
          slots := (State.giveUpMany k s).fillSlots r.slots } } := by
  rw [State.matchReturn, h]

theorem State.oldestDue_cons {s : State} {e : Outstanding} {rest : List Outstanding} (h : s.liu.outstanding = e :: rest) :
    s.oldestDue = decide (e.deadline ≤ s.tb.now) := by
  simp only [State.oldestDue, h]
  rfl

theorem exec_outstandingDeadline (s : State) : exec .outstandingDeadline s = .next (State.giveUpDue 2 s) := rfl

theorem State.giveUpDue_of_due {s : State} (n : Nat) (h : s.oldestDue = true) : State.giveUpDue (n + 1) s = State.giveUpDue n s.giveUp := if_pos h

theorem State.giveUpDue_of_not {s : State} (n : Nat) (h : s.oldestDue = false) : State.giveUpDue (n + 1) s = s := if_neg (by rw [h]; decide)

/-- Settles O44: a return is matched by its place in the list, and the entries before it are given up together. -/
theorem returnsAreMatchedOrGivenUp : Obligations.ReturnsAreMatchedOrGivenUp := by
  refine ⟨fun n att o slots s hp => ⟨fun hlate => ?late, fun e young hout he => ?oldest, fun e0 e young hout hne he => ?second⟩,
    fun src tag st payload s hp => ⟨if_pos hp, if_pos hp⟩, fun s => rfl, fun n att o slots src tag st payload s hp c hc => ?notAligned,
    fun s => ⟨fun hnot => ?notDue, fun e rest hout hle hrest => ?oneDue, fun e0 e1 hout h0 h1 => ?bothDue⟩⟩
  case late => rw [exec_downstreamReturn_of_aligned hp, State.matchReturn_of_absent hlate, State.watched]
  case oldest =>
    have hplace : outstandingPlace n s.watched.liu.outstanding = some 0 :=
      (congrArg (outstandingPlace n) hout).trans (outstandingPlace_of_split (old := []) he (by simp))
    rw [exec_downstreamReturn_of_aligned hp, State.matchReturn_of_place hplace]
    simp only [State.giveUpMany, State.watched, hout]
    rfl
  case second =>
    have hplace : outstandingPlace n s.watched.liu.outstanding = some 1 :=
      (congrArg (outstandingPlace n) hout).trans (outstandingPlace_of_split (old := [e0]) he (by simpa using hne))
    have hgive := State.giveUpMany_eq e0 [] (e :: young) s.watched hout
    rw [exec_downstreamReturn_of_aligned hp, State.matchReturn_of_place hplace]
    change State.giveUpMany 1 s.watched = _ at hgive
    rw [hgive]
    refine ⟨_, rfl, ?_, attentionHas_raise _ _, rfl, fun hc hb hn => ?_⟩
    · rw [Liu.pendReturn_frame]
      rfl
    · simp only [attentionAny_raise, Bool.or_true]
      rw [s.watched.missingPended_of_busy [e0] s.watched.liu hc hb (Nat.add_le_add_right (Nat.le_succ_of_le hn) 1)]
      refine (congrArg Liu.pendingReturns (Liu.pendReturn_of_busy _ (by exact hc) (by simp [State.watched]; omega) (by exact hb))).trans ?_
      exact List.append_assoc _ _ _
  case notAligned =>
    rcases List.mem_cons.mp hc with rfl | hc
    · exact if_neg hp
    rcases List.mem_cons.mp hc with rfl | hc
    · exact if_neg hp
    rw [List.mem_singleton.mp hc]
    exact if_neg hp
  case notDue =>
    have hdue : s.oldestDue = false := by
      cases hout : s.liu.outstanding with
      | nil => simp only [State.oldestDue, hout]
      | cons e rest =>
        rw [State.oldestDue_cons hout]
        exact decide_eq_false (Nat.not_le.mpr (hnot e rest hout))
    rw [exec_outstandingDeadline, State.giveUpDue_of_not 1 hdue]
  case oneDue =>
    have hdue : s.oldestDue = true := (State.oldestDue_cons hout).trans (decide_eq_true hle)
    have hgive := State.giveUp_cons hout
    have hrest : s.giveUp.oldestDue = false := by
      have hout' : s.giveUp.liu.outstanding = rest := by rw [hgive]
      have hnow : s.giveUp.tb.now = s.tb.now := by rw [hgive]
      cases rest with
      | nil => simp only [State.oldestDue, hout']
      | cons e' rest =>
        rw [State.oldestDue_cons hout', hnow]
        exact decide_eq_false (Nat.not_le.mpr (hrest e' List.mem_cons_self))
    rw [exec_outstandingDeadline, State.giveUpDue_of_due 1 hdue, State.giveUpDue_of_not 0 hrest, hgive]
    refine ⟨_, rfl, rfl, attentionHas_raise _ _, rfl, fun hc hb hn => ?_⟩
    exact congrArg Liu.pendingReturns (s.liu.pendReturn_of_busy (r := s.missing e) hc (by omega) hb)
  case bothDue =>
    have hdue : s.oldestDue = true := (State.oldestDue_cons hout).trans (decide_eq_true h0)
    have hgive := State.giveUp_cons hout
    have hsecond : s.giveUp.oldestDue = true := by
      rw [State.oldestDue_cons (s := s.giveUp) (e := e1) (rest := []) (by rw [hgive]), hgive]
      exact decide_eq_true h1
    have hmany := State.giveUpMany_eq e0 [e1] [] s hout
    rw [exec_outstandingDeadline, State.giveUpDue_of_due 1 hdue, State.giveUpDue_of_due 0 hsecond]
    refine ⟨_, congrArg _ hmany, rfl, attentionHas_raise _ _, rfl, fun hc hb hn => ?_⟩
    exact congrArg Liu.pendingReturns (s.missingPended_of_busy [e0, e1] s.liu hc hb (by simpa using hn))

/-! #### Sweeps (R155, R157, R158) -/

/-- As many entries as the list allows, given up together. -/
theorem State.giveUpMany_take (s : State) {k : Nat} (h : k ≤ s.liu.outstanding.length) :
    State.giveUpMany k s = { s with
      liu := { s.missingPended (s.liu.outstanding.take k) s.liu with outstanding := s.liu.outstanding.drop k }
      mru := { s.mru with attention := if k = 0 then s.mru.attention else attentionRaise s.mru.attention .returnMissing } } := by
  cases k with
  | zero => rfl
  | succ k =>
    cases hout : s.liu.outstanding with
    | nil => simp [hout] at h
    | cons e l =>
      have hk : k ≤ l.length := by simpa [hout] using h
      have hmany := State.giveUpMany_eq e (l.take k) (l.drop k) s (by rw [hout, List.cons_append, List.take_append_drop])
      rw [List.length_take, Nat.min_eq_left hk] at hmany
      rw [hmany, if_neg (Nat.succ_ne_zero k), List.take_succ_cons, List.drop_succ_cons]

/-- How many entries go when a new one is appended, and which (R158). -/
theorem State.appendOutstanding_eq (s : State) (n : Byte) (h : s.liu.outstanding.length ≤ 2) :
    ∃ k ≤ s.liu.outstanding.length,
      s.appendOutstanding n = { State.giveUpMany k s with
        liu := { (State.giveUpMany k s).liu with outstanding := s.liu.outstanding.drop k ++ [⟨n, s.tb.now + 5⟩] } } ∧
      ((∀ e ∈ s.liu.outstanding, e.number ≠ n) → s.liu.outstanding.length < 2 → k = 0) ∧
      ((∀ e ∈ s.liu.outstanding, e.number ≠ n) → s.liu.outstanding.length = 2 → k = 1) ∧
      (∀ old e young, s.liu.outstanding = old ++ e :: young → e.number = n → (∀ x ∈ old, x.number ≠ n) → k = old.length + 1) := by
  have happend (k : Nat) (hk : k ≤ s.liu.outstanding.length) (hgive : (s.giveUpThrough n).makeRoom = State.giveUpMany k s) :
      s.appendOutstanding n = { State.giveUpMany k s with
        liu := { (State.giveUpMany k s).liu with outstanding := s.liu.outstanding.drop k ++ [⟨n, s.tb.now + 5⟩] } } := by
    simp only [State.appendOutstanding, hgive]
    rw [s.giveUpMany_take hk]
    rfl
  cases hplace : outstandingPlace n s.liu.outstanding with
  | none =>
    have hthrough : s.giveUpThrough n = s := by rw [State.giveUpThrough, hplace]
    have hsplit (old : List Outstanding) (e : Outstanding) (young : List Outstanding) (hout : s.liu.outstanding = old ++ e :: young)
        (he : e.number = n) (hold : ∀ x ∈ old, x.number ≠ n) : False := by
      rw [hout, outstandingPlace_of_split he hold] at hplace
      cases hplace
    by_cases hroom : s.liu.outstanding.length < 2
    · refine ⟨0, Nat.zero_le _, happend 0 (Nat.zero_le _) ?_, fun _ _ => rfl, fun _ h2 => by omega, fun old e young ho he hx => ?_⟩
      · rw [hthrough, State.makeRoom]
        exact if_pos hroom
      · exact (hsplit old e young ho he hx).elim
    · refine ⟨1, by omega, happend 1 (by omega) ?_, fun _ hlt => absurd hlt hroom, fun _ _ => rfl, fun old e young ho he hx => ?_⟩
      · rw [hthrough, State.makeRoom]
        exact if_neg hroom
      · exact (hsplit old e young ho he hx).elim
  | some k =>
    obtain ⟨hk, hnum, -⟩ := List.findIdx?_eq_some_iff_getElem.mp hplace
    have hnum : s.liu.outstanding[k].number = n := beq_iff_eq.mp hnum
    have hfound (hfresh : ∀ e ∈ s.liu.outstanding, e.number ≠ n) : False := hfresh _ (List.getElem_mem hk) hnum
    refine ⟨k + 1, hk, happend (k + 1) hk ?_, fun hf => (hfound hf).elim, fun hf => (hfound hf).elim, fun old e young ho he hx => ?_⟩
    · rw [State.giveUpThrough, hplace, State.makeRoom]
      refine if_pos ?_
      change (State.giveUpMany (k + 1) s).liu.outstanding.length < 2
      rw [s.giveUpMany_take hk]
      change (s.liu.outstanding.drop (k + 1)).length < 2
      rw [List.length_drop]
      omega
    · rw [ho, outstandingPlace_of_split he hx] at hplace
      exact congrArg (· + 1) (Option.some.inj hplace).symm

/-- Two LIUs agree on the return lane, on what waits for it, and on whether it carries frames. -/
def UpAgrees (l l' : Liu) : Prop :=
  l.link.carriesFrames = l'.link.carriesFrames ∧ l.upLane = l'.upLane ∧ l.pendingReturns = l'.pendingReturns ∧ l.replyQueue = l'.replyQueue

theorem UpAgrees.nextUp {l l' : Liu} (h : UpAgrees l l') : UpAgrees l.nextUp l'.nextUp := by
  obtain ⟨hc, -, hp, hr⟩ := h
  unfold Liu.nextUp
  rw [hp, hr]
  split
  all_goals exact ⟨hc, rfl, rfl, rfl⟩

theorem UpAgrees.kickUp {l l' : Liu} (h : UpAgrees l l') : UpAgrees l.kickUp l'.kickUp := by
  obtain ⟨hc, hu, -, -⟩ := id h
  unfold Liu.kickUp
  rw [hc, hu]
  split
  · exact h.nextUp
  · exact h

theorem UpAgrees.pendReturn {l l' : Liu} (h : UpAgrees l l') (r : ReturnFrame) : UpAgrees (l.pendReturn r) (l'.pendReturn r) := by
  obtain ⟨hc, hu, hp, hr⟩ := id h
  unfold Liu.pendReturn
  rw [hc, hp]
  split
  · exact UpAgrees.kickUp ⟨hc, hu, rfl, hr⟩
  · exact h

theorem UpAgrees.missingPended {l l' : Liu} (h : UpAgrees l l') (s : State) (es : List Outstanding) :
    UpAgrees (s.missingPended es l) (s.missingPended es l') := by
  induction es generalizing l l' with
  | nil => exact h
  | cons e es ih => exact ih (h.pendReturn (s.missing e))

/-- A sweep's condition and activity, taken where the link is not DEGRADED (R142, R155). -/
def State.swept (s : State) (slots : Slots) : State := if s.liu.errorCount < 128 then s.applySweep slots else s

theorem State.swept_eq (s : State) (slots : Slots) :
    s.swept slots = { s with
      smap := (s.swept slots).smap, len := { s.len with linkLost := (s.swept slots).len.linkLost } } := by
  unfold State.swept
  split <;> rfl

theorem State.takeSweep_of_aligned {s : State} (hp : s.liu.port = .aligned) (n : Byte) (slots : Slots) :
    s.takeSweep n slots = { (s.swept slots).appendOutstanding n with
      liu := ((s.swept slots).appendOutstanding n).liu.forward (.sweep n slots) } := by
  have hport : (s.swept slots).liu.port = .aligned := by
    rw [s.swept_eq slots]
    exact hp
  exact if_pos hport

theorem State.takeSweep_of_not_aligned {s : State} (hp : s.liu.port ≠ .aligned) (n : Byte) (slots : Slots) :
    s.takeSweep n slots = (s.swept slots).originate n := by
  have hport : (s.swept slots).liu.port ≠ .aligned := by
    rw [s.swept_eq slots]
    exact hp
  exact if_neg hport

theorem exec_upstreamSweep_taken {s : State} (hl : s.liu.link = .aligned ∨ s.liu.link = .silent) (n : Byte) (slots : Slots) :
    exec (.upstreamSweep n slots) s = .next (s.acceptFrame.takeSweep n slots).resumeDown :=
  if_pos (s.takesFrames_iff.mpr hl)

/-- An ALIGNED port has no probe that waits. -/
theorem State.acceptFrame_of_port_aligned {s : State} (hl : s.liu.link = .aligned ∨ s.liu.link = .silent) (hp : s.liu.port = .aligned) :
    s.acceptFrame = { s with
      liu := { s.liu with link := .aligned, errorCount := s.liu.errorCount - 1, silenceStart := some s.tb.now, frameTaken := true } } := by
  rcases hl with hl | hl
  · rw [s.acceptFrame_aligned hl, ← hl]
  · rw [State.acceptFrame_silent_of_not hl fun h => absurd (hp.symm.trans h.1) (by decide)]

/-- A frame forwarded behind a busy lane waits at the end of the queue (R146). -/
theorem Liu.forward_of_busy {l : Liu} {f : DownFrame} (hd : l.downLane ≠ .idle) :
    l.forward f = { l with forwardQueue := l.forwardQueue ++ [f] } :=
  Liu.kickDown_of_not _ (.inr (.inr hd))

/-- A quiet lane of an ALIGNED port on an ALIGNED link takes the oldest frame at once (R146). -/
theorem Liu.forward_of_quiet {l : Liu} {f g : DownFrame} {fs : List DownFrame} (hl : l.link = .aligned) (hp : l.port = .aligned)
    (hd : l.downLane = .idle) (hq : l.forwardQueue ++ [f] = g :: fs) :
    l.forward f = { l with downLane := .frame g, forwardQueue := fs } := by
  have hkick := Liu.kickDown_of_quiet { l with forwardQueue := l.forwardQueue ++ [f] } hl hp hd
  refine hkick.trans ?_
  exact Liu.nextDown_of_waiting hl hq

theorem DownFrameOnly.trans {l l' m : Liu} (h : DownFrameOnly l l') (h' : DownFrameOnly l' m) : DownFrameOnly l m := by
  unfold DownFrameOnly at *
  rw [h] at h'
  exact h'

/-- The LIU with a valid frame taken on the upstream input, where no probe waits (R137, R141). -/
def Liu.taken (l : Liu) (now : Nat) : Liu :=
  { l with link := .aligned, errorCount := l.errorCount - 1, silenceStart := some now, frameTaken := true }

/-- The LIU with a sweep taken and recorded, k entries given up for it (R157, R158). -/
def State.recorded (s : State) (n : Byte) (k : Nat) : Liu :=
  { s.missingPended (s.liu.outstanding.take k) (s.liu.taken s.tb.now) with
    outstanding := s.liu.outstanding.drop k ++ [⟨n, s.tb.now + 5⟩] }

/-- What a sweep taken with the port ALIGNED leaves (R157). -/
theorem exec_upstreamSweep_forwarded {s : State} (hl : s.liu.link = .aligned ∨ s.liu.link = .silent) (hp : s.liu.port = .aligned)
    (hlen : s.liu.outstanding.length ≤ 2) (n : Byte) (slots : Slots) :
    ∃ k, exec (.upstreamSweep n slots) s = .next
        { s with
          smap := (s.acceptFrame.swept slots).smap
          len := { s.len with linkLost := (s.acceptFrame.swept slots).len.linkLost }
          liu := ((s.recorded n k).forward (.sweep n slots)).kickDown
          mru := { s.mru with
            attention := if k = 0 then s.mru.attention else attentionRaise s.mru.attention .returnMissing } } ∧
      ((∀ e ∈ s.liu.outstanding, e.number ≠ n) → s.liu.outstanding.length < 2 → k = 0) ∧
      ((∀ e ∈ s.liu.outstanding, e.number ≠ n) → s.liu.outstanding.length = 2 → k = 1) ∧
      (∀ old e young, s.liu.outstanding = old ++ e :: young → e.number = n → (∀ x ∈ old, x.number ≠ n) → k = old.length + 1) := by
  have haccept : s.acceptFrame = { s with liu := s.liu.taken s.tb.now } := State.acceptFrame_of_port_aligned hl hp
  have hswept : s.acceptFrame.swept slots = { s with
      smap := (s.acceptFrame.swept slots).smap
      len := { s.len with linkLost := (s.acceptFrame.swept slots).len.linkLost }
      liu := s.liu.taken s.tb.now } := by
    conv_lhs => rw [State.swept_eq]
    rw [haccept]
  generalize hb : s.acceptFrame.swept slots = b at hswept
  have hout : b.liu.outstanding = s.liu.outstanding := by
    rw [hswept]
    rfl
  have hmissing (es : List Outstanding) (l : Liu) : b.missingPended es l = s.missingPended es l := by
    unfold State.missingPended
    congr
    funext l e
    rw [State.missing_congr (s := s) (t := b) (by rw [hswept]) (by rw [hswept]) (by rw [hswept]) (by rw [hswept]; rfl)]
  obtain ⟨k, hk, happend, hfresh, hfull, hplace⟩ := b.appendOutstanding_eq n (by rw [hout]; exact hlen)
  rw [hout] at happend hfresh hfull hplace
  have hport : s.acceptFrame.liu.port = .aligned := by
    rw [haccept]
    exact hp
  refine ⟨k, ?_, hfresh, hfull, hplace⟩
  rw [exec_upstreamSweep_taken hl, State.takeSweep_of_aligned hport, hb, happend, b.giveUpMany_take hk, hmissing, hout]
  rw [hswept]
  rfl

theorem State.acceptFrame_errorCount {s : State} (hl : s.liu.link = .aligned ∨ s.liu.link = .silent) :
    s.acceptFrame.liu.errorCount = s.liu.errorCount - 1 := by
  rw [(s.acceptFrame_taken hl).2]

/-- Below a count of 128 the sweep is applied (R142, R155). -/
theorem State.swept_of_good {s : State} (hl : s.liu.link = .aligned ∨ s.liu.link = .silent) (slots : Slots) (h : s.liu.errorCount - 1 < 128) :
    (s.acceptFrame.swept slots).len.linkLost = false ∧
      ∀ b : BayId, (s.acceptFrame.swept slots).smap[b] = (s.smap[b]).sweep s.tables.bayMap[b] slots s.tb.now := by
  rw [State.swept, if_pos ((State.acceptFrame_errorCount hl).trans_lt h), (s.acceptFrame_taken hl).1]
  refine ⟨rfl, fun b => ?_⟩
  rw [State.applySweep_smap, get_ofFn]
  rfl

/-- At a count of 128 or more the sweep is not applied (R142). -/
theorem State.swept_of_degraded {s : State} (hl : s.liu.link = .aligned ∨ s.liu.link = .silent) (slots : Slots) (h : 128 ≤ s.liu.errorCount - 1) :
    s.acceptFrame.swept slots = s.acceptFrame :=
  if_neg (Nat.not_lt.mpr ((State.acceptFrame_errorCount hl).symm ▸ h))

theorem Applied.sweep_eq (a : Applied) (slot : Option SlotId) (slots : Slots) (now : Nat) :
    a.sweep slot slots now =
      match slot with
      | some k =>
        { condition := ⟨slots[k].toNat % 16, Nat.mod_lt _ (by decide)⟩
          stretch := if (slots[k]).getLsbD 7 then some (now + 50) else a.stretch }
      | none => { a with condition := 0 } := by
  cases slot <;> rfl

/-- What a sweep taken with the port not ALIGNED leaves (R157, R159). -/
theorem exec_upstreamSweep_answered {s : State} (hl : s.liu.link = .aligned ∨ s.liu.link = .silent) (hp : s.liu.port ≠ .aligned)
    (n : Byte) (slots : Slots) :
    exec (.upstreamSweep n slots) s = .next
      { s with
        smap := (s.acceptFrame.swept slots).smap
        len := { s.len with linkLost := (s.acceptFrame.swept slots).len.linkLost }
        liu := s.acceptFrame.liu.pendReturn (s.originated n) } := by
  have hport : s.acceptFrame.liu.port ≠ .aligned := by
    rcases hl with hl | hl
    · rw [s.acceptFrame_aligned hl]
      exact hp
    · rw [State.acceptFrame_silent hl]
      change (Liu.releaseProbe _ _).port ≠ _
      unfold Liu.releaseProbe
      split
      · exact PortState.noConfusion
      · exact hp
  have hframe := (s.acceptFrame_taken hl).1
  have hswept : s.acceptFrame.swept slots = { s with
      smap := (s.acceptFrame.swept slots).smap
      len := { s.len with linkLost := (s.acceptFrame.swept slots).len.linkLost }
      liu := s.acceptFrame.liu } := by
    conv_lhs => rw [State.swept_eq]
    rw [hframe]
  have hposition : s.acceptFrame.liu.position = s.liu.position := State.acceptFrame_position hl
  generalize hb : s.acceptFrame.swept slots = b at hswept
  have horiginated : b.originated n = s.originated n :=
    State.originated_congr (by rw [hswept]) (by rw [hswept]) (by rw [hswept]) (by rw [hswept]; exact hposition) (by rw [hswept]) n
  have hkick : (s.acceptFrame.liu.pendReturn (s.originated n)).kickDown = s.acceptFrame.liu.pendReturn (s.originated n) :=
    Liu.kickDown_of_not _ (.inr (.inl (by rw [Liu.pendReturn_frame]; exact hport)))
  rw [exec_upstreamSweep_taken hl, State.takeSweep_of_not_aligned hport, hb, State.originate, horiginated, hswept, State.resumeDown, hkick]

/-- Settles O39: the port decides between recording and answering, and the count whether the sweep is applied. -/
theorem sweepAppliedAndForwardedOrAnswered : Obligations.SweepAppliedAndForwardedOrAnswered := by
  intro n slots s hl hlen givenUp
  have hgood (h : s.liu.errorCount - 1 < 128) := State.swept_of_good hl slots h
  have hdegraded (h : 128 ≤ s.liu.errorCount - 1) :
      (s.acceptFrame.swept slots).smap = s.smap ∧ (s.acceptFrame.swept slots).len = s.len := by
    rw [State.swept_of_degraded hl slots h, (s.acceptFrame_taken hl).1]
    exact ⟨rfl, rfl⟩
  have happlied (h : s.liu.errorCount - 1 < 128) (b : BayId) :
      (s.acceptFrame.swept slots).smap[b] =
        match s.tables.bayMap[b] with
        | some k =>
          { condition := ⟨slots[k].toNat % 16, Nat.mod_lt _ (by decide)⟩
            stretch := if (slots[k]).getLsbD 7 then some (s.tb.now + 50) else s.smap[b].stretch }
        | none => { s.smap[b] with condition := 0 } := ((hgood h).2 b).trans (Applied.sweep_eq _ _ _ _)
  have hlen' (h : 128 ≤ s.liu.errorCount - 1) :
      ({ s.len with linkLost := (s.acceptFrame.swept slots).len.linkLost } : Len) = s.len := by rw [(hdegraded h).2]
  have hcarries : s.liu.link.carriesFrames = true := (LinkState.carriesFrames_iff _).mpr hl
  by_cases hp : s.liu.port = .aligned
  case pos =>
    obtain ⟨k, hexec, hfresh, hfull, hplace⟩ := exec_upstreamSweep_forwarded hl hp hlen n slots
    have hdown := (Liu.forward_frame (s.recorded n k) (.sweep n slots)).trans (Liu.kickDown_frame _)
    have hup := s.missingPended_frame (s.liu.outstanding.take k) (s.liu.taken s.tb.now)
    have htaken : UpAgrees (s.liu.taken s.tb.now) s.liu := ⟨hcarries.symm, rfl, rfl, rfl⟩
    have hagrees (es : List Outstanding) : UpAgrees (s.missingPended es (s.liu.taken s.tb.now)) (givenUp es) := htaken.missingPended s es
    unfold DownFrameOnly at hdown
    unfold UpFrame at hup
    have hrecorded : s.recorded n k = { s.missingPended (s.liu.outstanding.take k) (s.liu.taken s.tb.now) with
      outstanding := s.liu.outstanding.drop k ++ [⟨n, s.tb.now + 5⟩] } := rfl
    refine ⟨_, hexec, rfl, ?link, ?silence, ?errors, fun h => ⟨(hgood h).1, happlied h⟩, fun h => ⟨(hdegraded h).1, hlen' h⟩,
      fun _ => ⟨fun hf hlt => ?fresh, fun hf heq => ?full, fun old e young ho he hx => ?place, fun hd => ?busy, fun f fs hd hq => ?quiet⟩,
      fun hn => absurd hp hn⟩
    case link | silence | errors =>
      simp only
      rw [hdown, hrecorded, hup]
      rfl
    case fresh =>
      cases hfresh hf hlt
      simp only
      rw [hdown, hrecorded]
      exact ⟨rfl, rfl, rfl⟩
    case full =>
      cases hfull hf heq
      simp only
      rw [hdown, hrecorded]
      exact ⟨rfl, attentionHas_raise _ _, (hagrees _).2.2.1, (hagrees _).2.1⟩
    case place =>
      have hk := hplace old e young ho he hx
      subst hk
      have htake : s.liu.outstanding.take (old.length + 1) = old ++ [e] := by rw [ho]; simp [List.take_append]
      have hdrop : s.liu.outstanding.drop (old.length + 1) = young := by rw [ho]; simp [List.drop_append]
      simp only
      rw [hdown, hrecorded, htake, hdrop]
      exact ⟨rfl, attentionHas_raise _ _, (hagrees _).2.2.1, (hagrees _).2.1⟩
    case busy =>
      have hidle : (s.recorded n k).downLane ≠ .idle := by
        rw [hrecorded, hup]
        exact hd
      simp only
      rw [Liu.forward_of_busy hidle, Liu.kickDown_of_not _ (.inr (.inr (by exact hidle))), hrecorded, hup]
      exact ⟨rfl, rfl⟩
    case quiet =>
      have hquiet : (s.recorded n k).link = .aligned ∧ (s.recorded n k).port = .aligned ∧ (s.recorded n k).downLane = .idle ∧
          (s.recorded n k).forwardQueue ++ [.sweep n slots] = f :: fs := by
        rw [hrecorded, hup]
        exact ⟨rfl, hp, hd, hq⟩
      obtain ⟨hl', hp', hd', hq'⟩ := hquiet
      simp only
      rw [Liu.forward_of_quiet hl' hp' hd' hq', Liu.kickDown_of_not _ (.inr (.inr (by simp)))]
      exact ⟨rfl, rfl⟩
  case neg =>
    have hexec := exec_upstreamSweep_answered hl hp n slots
    have htaken := (s.acceptFrame_taken hl).2
    have hup := s.acceptFrame.liu.pendReturn_frame (s.originated n)
    unfold UpFrame at hup
    have hagrees : UpAgrees s.acceptFrame.liu s.liu := by
      rw [htaken]
      exact ⟨by rw [hcarries]; rfl, rfl, rfl, rfl⟩
    have hpended := hagrees.pendReturn (s.originated n)
    refine ⟨_, hexec, rfl, ?link', ?silence', ?errors', fun h => ⟨(hgood h).1, happlied h⟩, fun h => ⟨(hdegraded h).1, hlen' h⟩,
      fun h => absurd h hp, fun _ => ⟨?list, rfl, ⟨hpended.2.2.1, hpended.2.1⟩, fun hal => ?down, fun hb hn => ⟨s.originated n, ?_, rfl, rfl, rfl, rfl⟩⟩⟩
    case link' | silence' | errors' | list =>
      simp only
      rw [hup, htaken]
    case down =>
      simp only
      rw [hup, s.acceptFrame_aligned hal]
      exact ⟨rfl, rfl⟩
    · exact hpended.2.2.1.trans (congrArg Liu.pendingReturns (s.liu.pendReturn_of_busy hcarries hn hb))

end Sys2Proof.Machine

/-! ### The control period end (chapters 3 to 5) -/

namespace Sys2Proof.Machine

open Safety

/-! #### Several bays that join the queue together (R32) -/

/-- The record of a bay that has entered QUEUED (R11). -/
def State.queuedRecord (s : State) (b : BayId) : BayRecord :=
  { s.bays[b] with
    state := .queued, cls := s.tables.baySettings[b].cls, shedParked := false, backoffDeadline := none, drainDeadline := none }

/-- The queue with bay b joined, at the priority of its settings (R31). -/
def State.joinQueue (s : State) (q : List QueueEntry) (b : BayId) : List QueueEntry :=
  insertEntry { bay := b, priority := s.tables.baySettings[b].priority } q

theorem State.foldl_enterQueued (bs : List BayId) (s : State) (h : bs.Nodup) :
    bs.foldl State.enterQueued s = { s with
      bays := Vector.ofFn fun b => if b ∈ bs then s.queuedRecord b else s.bays[b]
      psq := { s.psq with queue := bs.foldl s.joinQueue s.psq.queue } } := by
  induction bs generalizing s with
  | nil =>
    have hbays : (Vector.ofFn fun b : BayId => if b ∈ ([] : List BayId) then s.queuedRecord b else s.bays[b]) = s.bays :=
      vector_ext fun b => by rw [get_ofFn, if_neg List.not_mem_nil]
    rw [hbays]
    rfl
  | cons x xs ih =>
    obtain ⟨hx, hxs⟩ := List.nodup_cons.mp h
    rw [List.foldl_cons, ih _ hxs]
    have hbays : (Vector.ofFn fun b : BayId => if b ∈ xs then (s.enterQueued x).queuedRecord b else (s.enterQueued x).bays[b]) =
        Vector.ofFn fun b : BayId => if b ∈ x :: xs then s.queuedRecord b else s.bays[b] := by
      refine vector_ext fun b => ?_
      rw [get_ofFn, get_ofFn]
      have hset : (s.enterQueued x).bays[b] = if b = x then s.queuedRecord x else s.bays[b] := get_set _ _ _ _
      by_cases hbx : b = x
      · subst hbx
        rw [if_neg hx, if_pos List.mem_cons_self, hset, if_pos rfl]
      · rw [if_neg hbx] at hset
        simp only [List.mem_cons, hbx, false_or, State.queuedRecord, hset]
        rfl
    rw [hbays]
    rfl

theorem State.enterQueuedAll_eq (s : State) (p : BayId → Bool) :
    s.enterQueuedAll p = { s with
      bays := Vector.ofFn fun b => if p b = true then s.queuedRecord b else s.bays[b]
      psq := { s.psq with queue := joinedQueue s (fun b => p b = true) s.psq.queue } } := by
  have hmem (b : BayId) : b ∈ (List.finRange 24).filter p ↔ p b = true := by simp
  rw [State.enterQueuedAll, State.foldl_enterQueued _ _ ((List.nodup_finRange 24).filter p)]
  simp only [hmem, joinedQueue, Bool.decide_eq_true]
  rfl

theorem joinedQueue_congr {s t : State} {p q : BayId → Prop} [DecidablePred p] [DecidablePred q] (ht : t.tables = s.tables)
    (h : ∀ b, p b ↔ q b) (queue : List QueueEntry) : joinedQueue t p queue = joinedQueue s q queue := by
  simp only [joinedQueue, h, ht]

theorem State.mem_foldl_joinQueue (s : State) (bs : List BayId) (q : List QueueEntry) (x : BayId) :
    x ∈ (bs.foldl s.joinQueue q).map (·.bay) ↔ x ∈ bs ∨ x ∈ q.map (·.bay) := by
  induction bs generalizing q with
  | nil => simp
  | cons b bs ih =>
    rw [List.foldl_cons, ih, State.joinQueue, ((insertEntry_perm _ q).map _).mem_iff, List.map_cons, List.mem_cons, List.mem_cons]
    exact or_left_comm.trans or_assoc.symm

theorem mem_joinedQueue (s : State) (p : BayId → Prop) [DecidablePred p] (q : List QueueEntry) (x : BayId) :
    x ∈ (joinedQueue s p q).map (·.bay) ↔ p x ∨ x ∈ q.map (·.bay) := by
  refine (s.mem_foldl_joinQueue _ q x).trans (or_congr_left ?_)
  simp

/-! #### The stages of the period end (R78) -/

/-- The zones after stage 2 of a period end. -/
def State.zonesNext (s : State) : Vector Zone 3 := Vector.ofFn fun z => s.zoneWork s.judgedFans z

/-- The fans after stages 3 and 4 of a period end. -/
def State.fansNext (s : State) : Vector Fan 6 :=
  Vector.ofFn fun f => (s.judgedFans[f]).drive (fanDuty s.tables.fans[f] s.zonesNext[s.tables.fans[f].zone].output) s.now

/-- The shed engine's records after a period end. -/
def State.shedsNext (s : State) : Vector ShedRecord 3 :=
  Vector.ofFn fun z => shedFollows s.zones[z].shed s.zonesNext[z].shed s.psq.shed[z] s.now

/-- A fan enters FAILED at this period end. -/
def State.fanFails (s : State) : Bool :=
  (List.finRange 6).any fun f => decide (s.judgedFans[f].state = .failed) && decide (s.fans[f].state ≠ .failed)

def State.holdSets (s : State) (z : ZoneId) : Bool := s.zonesNext[z].hold && !s.zones[z].hold
def State.holdClears (s : State) (z : ZoneId) : Bool := s.zones[z].hold && !s.zonesNext[z].hold

/-- The bay is one of the group that the clearing of HOLD re-queues (R104). -/
def State.returns (s : State) (b : BayId) : Bool :=
  decide (s.bays[b].state = .parked) && s.bays[b].shedParked && s.inHold b && !s.zonesNext[s.zoneOf b].hold

/-- The attention set after a period end. -/
def State.attentionNext (s : State) : BitVec 15 :=
  let a := if s.fanFails then attentionRaise s.mru.attention .fanFailed else s.mru.attention
  if (List.finRange 3).any s.holdSets then attentionRaise a .zoneHold else a

/-- The part with its zones, fans and shed engine worked, before bays join the queue. -/
def State.periodWork (s : State) : State :=
  { s with
    zones := s.zonesNext, fans := s.fansNext, psq := { s.psq with shed := s.shedsNext }
    mru := { s.mru with attention := s.attentionNext } }

/-- The part before the consideration of a period end. -/
def State.periodGroup (s : State) : State := s.periodWork.enterQueuedAll s.returns

theorem State.periodEnd_eq (s : State) : s.periodEnd = s.periodGroup.considerIf ((List.finRange 3).any s.holdClears) := by
  have hraise (t : State) (c d : Bool) : (t.raiseIf c .fanFailed).raiseIf d .zoneHold = { t with
      mru := { t.mru with
        attention :=
          let a := if c then attentionRaise t.mru.attention .fanFailed else t.mru.attention
          if d then attentionRaise a .zoneHold else a } } := by
    cases c <;> cases d <;> rfl
  have hwork : s.periodWork = State.raiseIf (State.raiseIf { s with
      zones := s.zonesNext, fans := s.fansNext, psq := { s.psq with shed := s.shedsNext } } s.fanFails .fanFailed)
      ((List.finRange 3).any s.holdSets) .zoneHold := by
    rw [hraise]
    rfl
  rw [State.periodGroup, hwork]
  rfl

theorem exec_controlPeriodEnd_of_over {s : State} {p : Nat} (hr : s.phase = .running) (hp : s.tb.nextPeriod = some p) (hle : p ≤ s.tb.now)
    (hc : s.converted = 4) :
    exec .controlPeriodEnd s = .next (State.periodEnd { s with tb := { s.tb with nextPeriod := some (p + 1000) }, converted := 0 }) := by
  have hover : s.periodOver = true := by
    rw [State.periodOver, hr, hp, hc, Bool.and_eq_true, Bool.and_eq_true, reached_some]
    exact ⟨⟨rfl, decide_eq_true hle⟩, rfl⟩
  refine (if_pos hover).trans ?_
  rw [hp]
  rfl

/-! #### The zones (R79 to R84, R96 to R98) -/

/-- The largest of a list of numbers, and 0 of none. -/
theorem foldl_max_spec (l : List Nat) (a : Nat) :
    a ≤ l.foldl max a ∧ (∀ x ∈ l, x ≤ l.foldl max a) ∧ (l.foldl max a = a ∨ l.foldl max a ∈ l) := by
  induction l generalizing a with
  | nil => simp
  | cons x xs ih =>
    obtain ⟨hle, hall, hor⟩ := ih (max a x)
    simp only [List.foldl_cons]
    refine ⟨(le_max_left a x).trans hle, List.forall_mem_cons.mpr ⟨(le_max_right a x).trans hle, hall⟩, ?_⟩
    rcases hor with h | h
    · rw [h]
      rcases max_choice a x with hm | hm
      · exact .inl hm
      · exact .inr (by rw [hm]; exact List.mem_cons_self)
    · exact .inr (List.mem_cons_of_mem _ h)

theorem State.rawDemand_spec (s : State) (z : ZoneId) :
    (∀ x ∈ s.presentSources z, curveValue x.2.points x.1 ≤ s.rawDemand z) ∧
      (s.rawDemand z = 0 ∨ ∃ x ∈ s.presentSources z, curveValue x.2.points x.1 = s.rawDemand z) := by
  obtain ⟨-, hall, hor⟩ := foldl_max_spec ((s.presentSources z).map fun x => curveValue x.2.points x.1) 0
  exact ⟨fun x hx => hall _ (List.mem_map_of_mem hx), hor.imp_right List.mem_map.mp⟩

theorem heldDemand_eq (held raw hysteresis : Nat) :
    heldDemand held raw hysteresis = if held ≤ raw then raw else if hysteresis < held - raw then raw else held := by
  unfold heldDemand
  split_ifs <;> omega

theorem length_filter_finRange {n : Nat} (p : Fin n → Bool) :
    ((List.finRange n).filter p).length = (Finset.univ.filter fun i => p i = true).card := by
  rw [Fin.univ_def, Finset.card_def, Finset.filter_val]
  simp

theorem failedFans_eq (fans : Vector Fan 6) (table : Vector FanSetting 6) (z : ZoneId) :
    failedFans fans table z = (Finset.univ.filter fun f : FanId => table[f].zone = z ∧ fans[f].state = .failed).card := by
  rw [failedFans, length_filter_finRange]
  simp only [Bool.and_eq_true, decide_eq_true_eq]

theorem State.weightFloor_eq (s : State) (z : ZoneId) :
    s.weightFloor z = min 1000 (s.tables.zones[z].baseFloor +
      ∑ b : BayId, if s.tables.baySettings[b].zone = z ∧ s.en b = true then s.tables.classes[s.bays[b].cls].weight else 0) := by
  rw [State.weightFloor, Fin.sum_univ_def]
  rfl

theorem State.driveStaleIn_iff (s : State) (z : ZoneId) :
    s.driveStaleIn z = true ↔ ∃ b : BayId, s.tables.baySettings[b].zone = z ∧ s.bays[b].state = .powered ∧ s.drives[b].state = .stale := by
  simp only [State.driveStaleIn, List.any_eq_true, List.mem_finRange, true_and, Bool.and_eq_true, decide_eq_true_eq, and_assoc]
  exact Iff.rfl

theorem State.sensorFailedFor_iff (s : State) (z : ZoneId) :
    s.sensorFailedFor z = true ↔ ∃ k : SensorId, s.tables.sensors[k].mask[z] = true ∧ s.sensors[k].state = .failed := by
  simp only [State.sensorFailedFor, List.any_eq_true, List.mem_finRange, true_and, Bool.and_eq_true, decide_eq_true_eq]

theorem targetOf_eq (zs : ZoneSetting) (held floor failed : Nat) :
    targetOf zs held floor failed = max (max held floor) (if 0 < failed then zs.boostDuty else 0) := by
  unfold targetOf
  split <;> simp

theorem slewed_eq (zs : ZoneSetting) (output target failed : Nat) (sensorFailed : Bool) :
    slewed zs output target (decide (0 < failed) || sensorFailed) =
      if output < target then (if 0 < failed ∨ sensorFailed = true then target else min target (output + zs.slewUp))
      else max target (output - zs.slewDown) := by
  simp only [slewed, Bool.or_eq_true, decide_eq_true_eq]

theorem atThreshold_iff (t : Int) (o : Option Int) : atThreshold t o = true ↔ ∃ h, o = some h ∧ h ≤ t := by
  cases o <;> simp [atThreshold]

theorem clearOfThreshold_iff (t : Int) (o : Option Int) : clearOfThreshold t o = true ↔ ∀ h, o = some h → t < h - 4 := by
  cases o <;> simp [clearOfThreshold]

theorem holdNext_iff (hold : Bool) (sources : List (Int × Curve)) (failed limit : Nat) :
    holdNext hold sources failed limit = true ↔
      if hold = true then ¬ ((∀ x ∈ sources, ∀ h, x.2.hold = some h → x.1 < h - 4) ∧ failed < limit)
      else (∃ x ∈ sources, ∃ h, x.2.hold = some h ∧ h ≤ x.1) ∨ limit ≤ failed := by
  cases hold <;>
    simp only [holdNext, if_true, Bool.false_eq_true, if_false, Bool.not_eq_true', ← Bool.not_eq_true, Bool.or_eq_true, Bool.and_eq_true, List.all_eq_true,
      List.any_eq_true, decide_eq_true_eq, clearOfThreshold_iff, atThreshold_iff]

theorem shedNext_iff (shed : Bool) (sources : List (Int × Curve)) :
    shedNext shed sources = true ↔
      if shed = true then ¬ ∀ x ∈ sources, ∀ h, x.2.shed = some h → x.1 < h - 4
      else ∃ x ∈ sources, ∃ h, x.2.shed = some h ∧ h ≤ x.1 := by
  cases shed <;>
    simp only [shedNext, if_true, Bool.false_eq_true, if_false, Bool.not_eq_true', ← Bool.not_eq_true, List.all_eq_true, List.any_eq_true,
      clearOfThreshold_iff, atThreshold_iff]

theorem State.zonesNext_get (s : State) (z : ZoneId) : s.zonesNext[z] = s.zoneWork s.judgedFans z := get_ofFn _ _

theorem State.periodEnd_zones (s : State) : s.periodEnd.zones = s.zonesNext := by
  rw [State.periodEnd_eq, State.considerIf_zones, State.periodGroup, State.enterQueuedAll_eq]
  rfl

/-- Settles O28: each zone is the work of its stage 2, and each field of that work the rule it names. -/
theorem periodEndComputesEachZone : Obligations.PeriodEndComputesEachZone := by
  intro s p hr hp hle hc
  refine ⟨_, exec_controlPeriodEnd_of_over hr hp hle hc, ?tb, ?converted, fun z => ?zone⟩
  case tb | converted =>
    rw [State.periodEnd_eq]
    simp only [State.considerIf_tb, State.considerIf_converted, State.periodGroup, State.enterQueuedAll_eq]
    rfl
  case zone =>
    rw [State.periodEnd_zones, State.zonesNext_get]
    obtain ⟨hall, hor⟩ := s.rawDemand_spec z
    refine ⟨⟨s.rawDemand z, rfl, hall, hor, heldDemand_eq _ _ _⟩, failedFans_eq _ _ _,
      ⟨_, _, rfl, rfl, s.weightFloor_eq z, ?_, s.sensorFailedFor_iff z, rfl, ?_, ?_⟩, ?_, shedNext_iff _ _, rfl⟩
    · change (s.tables.zones[z].reportsExpected && s.driveStaleIn z) = true ↔ _
      rw [Bool.and_eq_true, State.driveStaleIn_iff]
    · rw [← failedFans_eq]
      exact targetOf_eq _ _ _ _
    · rw [← failedFans_eq]
      exact slewed_eq _ _ _ _ _
    · rw [← failedFans_eq]
      exact holdNext_iff _ _ _ _

/-! #### The fans (R85, R86, R88 to R91) -/

/-- The judgement of a window touches the fan's state, counts, grace and last rpm alone. -/
theorem Fan.closeWindow_frame (f : Fan) (c : FanSetting) (now : Nat) :
    f.closeWindow c now = { f with
      state := (f.closeWindow c now).state, grace := (f.closeWindow c now).grace, lowCount := (f.closeWindow c now).lowCount
      goodCount := (f.closeWindow c now).goodCount, lastRpm := some (windowRpm f.pulses c.pulsesPerRev) } := by
  unfold Fan.closeWindow
  cases f.state <;> simp only <;> repeat' split
  all_goals rfl

theorem Fan.closeWindow_stopped {f : Fan} (h : f.state = .stopped) (c : FanSetting) (now : Nat) :
    f.closeWindow c now = { f with lastRpm := some (windowRpm f.pulses c.pulsesPerRev) } := by
  simp only [Fan.closeWindow, h]

theorem Fan.closeWindow_starting {f : Fan} (h : f.state = .starting) (c : FanSetting) (now : Nat) :
    f.closeWindow c now =
      if ∃ g, f.grace = some g ∧ g + 5000 ≤ now then
        { f with lastRpm := some (windowRpm f.pulses c.pulsesPerRev), state := .running, grace := none, lowCount := 0, goodCount := 0 }
      else { f with lastRpm := some (windowRpm f.pulses c.pulsesPerRev) } := by
  simp only [Fan.closeWindow, h, elapsed_iff]
  rfl

theorem Fan.closeWindow_running {f : Fan} (h : f.state = .running) (hs : f.skipWindow = false) (c : FanSetting) (now : Nat) :
    f.closeWindow c now =
      if c.floorRpm ≤ windowRpm f.pulses c.pulsesPerRev then
        { f with lastRpm := some (windowRpm f.pulses c.pulsesPerRev), lowCount := 0 }
      else if 3 ≤ f.lowCount + 1 then
        { f with lastRpm := some (windowRpm f.pulses c.pulsesPerRev), state := .failed, lowCount := 0, goodCount := 0 }
      else { f with lastRpm := some (windowRpm f.pulses c.pulsesPerRev), lowCount := f.lowCount + 1 } := by
  simp only [Fan.closeWindow, h, hs, decide_eq_true_eq, Bool.false_eq_true, if_false]

theorem Fan.closeWindow_skipped {f : Fan} (h : f.state = .running) (hs : f.skipWindow = true) (c : FanSetting) (now : Nat) :
    f.closeWindow c now = { f with lastRpm := some (windowRpm f.pulses c.pulsesPerRev) } := by
  simp only [Fan.closeWindow, h, hs, if_true]

theorem Fan.closeWindow_failed {f : Fan} (h : f.state = .failed) (c : FanSetting) (now : Nat) :
    f.closeWindow c now =
      if c.floorRpm ≤ windowRpm f.pulses c.pulsesPerRev then
        if 3 ≤ f.goodCount + 1 then
          { f with lastRpm := some (windowRpm f.pulses c.pulsesPerRev), state := .running, lowCount := 0, goodCount := 0 }
        else { f with lastRpm := some (windowRpm f.pulses c.pulsesPerRev), goodCount := f.goodCount + 1 }
      else { f with lastRpm := some (windowRpm f.pulses c.pulsesPerRev), goodCount := 0 } := by
  simp only [Fan.closeWindow, h, Bool.not_eq_true', decide_eq_false_iff_not, ite_not]

theorem Fan.drive_zero (f : Fan) (now : Nat) :
    f.drive 0 now = { f with
      duty := 0, compare := pwmCompare 0 f.divisor, pulses := 0, skipWindow := false, state := .stopped, lowCount := 0, goodCount := 0
      grace := none } := rfl

theorem Fan.drive_stopped {f : Fan} {duty : Nat} (hd : duty ≠ 0) (h : f.state = .stopped) (now : Nat) :
    f.drive duty now = { f with
      duty := duty, compare := pwmCompare duty f.divisor, pulses := 0, skipWindow := false, state := .starting, grace := some now } := by
  simp only [Fan.drive, if_neg hd, h, if_true]

theorem Fan.drive_turning {f : Fan} {duty : Nat} (hd : duty ≠ 0) (h : f.state ≠ .stopped) (now : Nat) :
    f.drive duty now = { f with duty := duty, compare := pwmCompare duty f.divisor, pulses := 0, skipWindow := false } := by
  simp only [Fan.drive, if_neg hd, if_neg h]

/-- What a fan's drive sets whatever the fan's state. -/
theorem Fan.drive_pwm (f : Fan) (duty now : Nat) :
    (f.drive duty now).lastRpm = f.lastRpm ∧ (f.drive duty now).duty = duty ∧ (f.drive duty now).divisor = f.divisor ∧
      (f.drive duty now).compare = duty * f.divisor / 1000 ∧ (f.drive duty now).divisorNow = f.divisorNow ∧
      (f.drive duty now).compareNow = f.compareNow ∧ (f.drive duty now).pulses = 0 ∧ (f.drive duty now).skipWindow = false := by
  unfold Fan.drive
  simp only
  split
  · exact ⟨rfl, rfl, rfl, rfl, rfl, rfl, rfl, rfl⟩
  · split <;> exact ⟨rfl, rfl, rfl, rfl, rfl, rfl, rfl, rfl⟩

theorem attentionHas_raise_of_has {a : BitVec 15} {k : AttentionKind} (h : attentionHas a k = true) (k' : AttentionKind) :
    attentionHas (attentionRaise a k') k = true := by
  unfold attentionHas at h ⊢
  rw [attentionRaise, BitVec.getLsbD_or, h, Bool.true_or]

theorem State.periodEnd_fans (s : State) : s.periodEnd.fans = s.fansNext := by
  rw [State.periodEnd_eq, State.considerIf_fans, State.periodGroup, State.enterQueuedAll_eq]
  rfl

/-- A fan after a period end: its window closed, and its drive from its zone's new output. -/
theorem State.periodEnd_fan (s : State) (f : FanId) :
    s.periodEnd.fans[f] = ((s.fans[f]).closeWindow s.tables.fans[f] s.now).drive
      (fanDuty s.tables.fans[f] s.periodEnd.zones[s.tables.fans[f].zone].output) s.now := by
  rw [State.periodEnd_zones, State.periodEnd_fans, State.fansNext, get_ofFn, State.judgedFans, get_ofFn]

theorem State.periodEnd_attention (s : State) : s.periodEnd.mru.attention = s.attentionNext := by
  rw [State.periodEnd_eq, State.considerIf_mru, State.periodGroup, State.enterQueuedAll_eq]
  rfl

/-- An entry to FAILED raises FAN_FAILED (R91). -/
theorem State.attentionNext_fanFailed {s : State} {f : FanId} (hn : s.judgedFans[f].state = .failed) (ho : s.fans[f].state ≠ .failed) :
    attentionHas s.attentionNext .fanFailed = true := by
  have hfails : s.fanFails = true :=
    List.any_eq_true.mpr ⟨f, List.mem_finRange f, by rw [Bool.and_eq_true]; exact ⟨decide_eq_true hn, decide_eq_true ho⟩⟩
  unfold State.attentionNext
  simp only [hfails, if_true]
  split
  · exact attentionHas_raise_of_has (attentionHas_raise _ _) _
  · exact attentionHas_raise _ _

/-- Settles O30: the fan's window closed under its state, and then its drive. -/
theorem periodEndJudgesAndDrivesFans : Obligations.PeriodEndJudgesAndDrivesFans := by
  intro s p hr hp hle hc
  refine ⟨_, exec_controlPeriodEnd_of_over hr hp hle hc, fun f => ?_⟩
  generalize hs' : ({ s with tb := { s.tb with nextPeriod := some (p + 1000) }, converted := 0 } : State) = s'
  intro c old rpm good out duty graceOver
  have hfans : s'.fans = s.fans := by rw [← hs']
  have htables : s'.tables = s.tables := by rw [← hs']
  have hnow : s'.now = s.tb.now := by rw [← hs']; rfl
  have hjudged : s'.judgedFans[f] = old.closeWindow c s.tb.now := by
    rw [State.judgedFans, get_ofFn, hfans, htables, hnow]
  have hnew : s'.periodEnd.fans[f] = (old.closeWindow c s.tb.now).drive duty s.tb.now := by
    subst hs'
    exact State.periodEnd_fan _ f
  have hrpm : windowRpm old.pulses c.pulsesPerRev = rpm := rfl
  have hraise (hf : (old.closeWindow c s.tb.now).state = .failed) (ho : old.state ≠ .failed) : s'.periodEnd.has .fanFailed = true := by
    rw [State.has, State.periodEnd_attention]
    exact State.attentionNext_fanFailed (f := f) (by rw [hjudged, hf]) (by rw [hfans]; exact ho)
  have hframe := old.closeWindow_frame c s.tb.now
  obtain ⟨h1, h2, h3, h4, h5, h6, h7, h8⟩ := (old.closeWindow c s.tb.now).drive_pwm duty s.tb.now
  rw [hnew]
  refine ⟨h1.trans (congrArg Fan.lastRpm hframe), h2, h3.trans (by rw [hframe]), h4.trans (by rw [hframe]), h5.trans (by rw [hframe]), h6.trans (by rw [hframe]), h7,
    fun hz => ?zero, fun hd ho => ?stopped, fun hd ho hg => ?graceOver, fun hd ho hg => ?inGrace, fun hd ho hk => ?running,
    fun hd ho hk => ?skipped, h8, fun hd ho => ?failed⟩
  case zero =>
    rw [hz, Fan.drive_zero]
    exact ⟨rfl, rfl, rfl, rfl⟩
  case stopped =>
    rw [Fan.closeWindow_stopped ho, Fan.drive_stopped hd (by exact ho)]
    exact ⟨rfl, rfl⟩
  case graceOver =>
    rw [Fan.closeWindow_starting ho, if_pos hg, Fan.drive_turning hd (by simp)]
    exact ⟨rfl, rfl, rfl⟩
  case inGrace =>
    rw [Fan.closeWindow_starting ho, if_neg hg, Fan.drive_turning hd (by simp [ho])]
    exact ⟨ho, rfl, rfl, rfl⟩
  case skipped =>
    rw [Fan.closeWindow_skipped ho hk, Fan.drive_turning hd (by simp [ho])]
    exact ⟨ho, rfl, rfl⟩
  case running =>
    have hclose := Fan.closeWindow_running ho hk c s.tb.now
    rw [hrpm] at hclose
    refine ⟨fun hgood => ?_, fun hbad hlt => ?_, fun hbad hge => ?_⟩
    · rw [hclose, if_pos hgood, Fan.drive_turning hd (by simp [ho])]
      exact ⟨ho, rfl⟩
    · rw [hclose, if_neg hbad, if_neg (Nat.not_le.mpr hlt), Fan.drive_turning hd (by simp [ho])]
      exact ⟨ho, rfl⟩
    · rw [if_neg hbad, if_pos hge] at hclose
      have hhas := hraise (by rw [hclose]) (by rw [ho]; decide)
      rw [hclose, Fan.drive_turning hd (by simp)]
      exact ⟨rfl, rfl, rfl, hhas⟩
  case failed =>
    have hclose := Fan.closeWindow_failed ho c s.tb.now
    rw [hrpm] at hclose
    refine ⟨fun hbad => ?_, fun hgood hlt => ?_, fun hgood hge => ?_⟩
    · rw [hclose, if_neg hbad, Fan.drive_turning hd (by simp [ho])]
      exact ⟨ho, rfl⟩
    · rw [hclose, if_pos hgood, if_neg (Nat.not_le.mpr hlt), Fan.drive_turning hd (by simp [ho])]
      exact ⟨ho, rfl⟩
    · rw [hclose, if_pos hgood, if_pos hge, Fan.drive_turning hd (by simp)]
      exact ⟨rfl, rfl, rfl⟩

/-! #### What a period end does to power (R32, R50, R97, R100, R101, R104) -/

theorem State.returns_iff (s : State) (b : BayId) :
    s.returns b = true ↔
      s.bays[b].state = .parked ∧ s.bays[b].shedParked = true ∧ s.zones[s.tables.baySettings[b].zone].hold = true ∧
        s.zonesNext[s.tables.baySettings[b].zone].hold = false := by
  simp only [State.returns, Bool.and_eq_true, Bool.not_eq_true', decide_eq_true_eq, and_assoc]
  exact Iff.rfl

theorem State.holdClears_iff (s : State) : (List.finRange 3).any s.holdClears = true ↔ ∃ z : ZoneId, s.zones[z].hold = true ∧ s.zonesNext[z].hold = false := by
  simp only [List.any_eq_true, List.mem_finRange, true_and, State.holdClears, Bool.and_eq_true, Bool.not_eq_true']

/-- The part before the consideration of a period end, each field said. -/
theorem State.periodGroup_eq (s : State) :
    s.periodGroup = { s with
      bays := Vector.ofFn fun b => if s.returns b = true then s.queuedRecord b else s.bays[b]
      zones := s.zonesNext, fans := s.fansNext
      psq := { s.psq with queue := joinedQueue s (fun b => s.returns b = true) s.psq.queue, shed := s.shedsNext }
      mru := { s.mru with attention := s.attentionNext } } := by
  rw [State.periodGroup, State.enterQueuedAll_eq]
  rfl

theorem shedFollows_eq (old new : Bool) (r : ShedRecord) (now : Nat) :
    shedFollows old new r now =
      if new = true ∧ old = false then .delay now else if old = true ∧ new = false then .idle else r := by
  cases old <;> cases new <;> rfl

/-- An entry to HOLD raises ZONE_HOLD (R97). -/
theorem State.attentionNext_zoneHold {s : State} {z : ZoneId} (ho : s.zones[z].hold = false) (hn : s.zonesNext[z].hold = true) :
    attentionHas s.attentionNext .zoneHold = true := by
  have hsets : (List.finRange 3).any s.holdSets = true :=
    List.any_eq_true.mpr ⟨z, List.mem_finRange z, by rw [State.holdSets, hn, ho]; rfl⟩
  unfold State.attentionNext
  simp only [hsets, if_true]
  exact attentionHas_raise _ _

/-- In a part whose queue holds the QUEUED bays, a bay that a period end's group leaves out of QUEUED keeps its record through the consideration. -/
theorem State.periodEnd_bay_of_not_queued {s : State} (hq : QueueSound s) {b : BayId} (hb : s.bays[b].state ≠ .queued) (hr : ¬ s.returns b = true) :
    s.periodEnd.bays[b] = s.bays[b] := by
  obtain ⟨-, hmem, -⟩ := hq
  have hbay (x : BayId) : s.periodGroup.bays[x] = if s.returns x = true then s.queuedRecord x else s.bays[x] := by
    rw [s.periodGroup_eq, get_ofFn]
  have hb' : s.periodGroup.bays[b] = s.bays[b] := (hbay b).trans (if_neg hr)
  have hqueue : ∀ x ∈ s.periodGroup.psq.queue.map (·.bay), s.periodGroup.bays[x].state = .queued := by
    intro x hx
    rw [s.periodGroup_eq] at hx
    rw [hbay]
    by_cases hret : s.returns x = true
    · rw [if_pos hret]
      rfl
    · rw [if_neg hret]
      exact (hmem x).mp (((mem_joinedQueue _ _ _ _).mp hx).resolve_left hret)
  rw [s.periodEnd_eq, State.considerIf]
  split
  · rw [State.consider_bay _ hqueue (by rw [hb']; exact hb), hb']
  · exact hb'

/-- Settles O31: the state before the consideration is the worked part with its group of bays re-queued. -/
theorem periodEndMovesOnlyShedParkedBays : Obligations.PeriodEndMovesOnlyShedParkedBays := by
  intro s p hr hp hle hc
  generalize hs' : ({ s with tb := { s.tb with nextPeriod := some (p + 1000) }, converted := 0 } : State) = s'
  have hexec : exec .controlPeriodEnd s = .next s'.periodEnd := hs' ▸ exec_controlPeriodEnd_of_over hr hp hle hc
  have hu := s'.periodGroup_eq
  have hzones : s'.periodGroup.zones = s'.zonesNext := by rw [hu]
  refine ⟨s'.periodGroup, s'.periodEnd, hexec, ?frame, ?power, fun z => ?shed, fun z ho hn => ?hold⟩
  case frame =>
    conv_lhs => rw [hu]
    conv_rhs => rw [hu]
    subst hs'
    rfl
  case power =>
    intro clears returned
    have hreturned (b : BayId) : s'.returns b = true ↔ returned b := by
      rw [State.returns_iff]
      simp only [returned, clears, hzones]
      subst hs'
      exact Iff.rfl
    have hclears : (List.finRange 3).any s'.holdClears = true ↔ ∃ z : ZoneId, clears z := by
      rw [State.holdClears_iff]
      simp only [clears, hzones]
      subst hs'
      exact Iff.rfl
    refine ⟨fun hz => ?_, fun hz => ?_, ?_, fun b => ?_, fun hq b hb hret => ?_⟩
    · rw [s'.periodEnd_eq, hclears.mpr hz]
      rfl
    · rw [s'.periodEnd_eq, Bool.eq_false_iff.mpr fun h => (hclears.mp h).elim hz]
      rfl
    · have hqueue : s'.periodGroup.psq.queue = joinedQueue s' (fun b => s'.returns b = true) s'.psq.queue := by rw [hu]
      refine hqueue.trans ((joinedQueue_congr (s := s) (by subst hs'; rfl) hreturned _).trans ?_)
      subst hs'
      rfl
    · have hbay : s'.periodGroup.bays[b] = if s'.returns b = true then s'.queuedRecord b else s'.bays[b] := by rw [hu, get_ofFn]
      refine hbay.trans ?_
      simp only [hreturned]
      subst hs'
      rfl
    · have hkeep := State.periodEnd_bay_of_not_queued (s := s') (b := b) (by subst hs'; exact hq) (by subst hs'; exact hb) (fun h => hret ((hreturned b).mp h))
      rw [hkeep]
      subst hs'
      rfl
  case shed =>
    rw [hzones]
    have hshed : s'.periodGroup.psq.shed = s'.shedsNext := by rw [hu]
    rw [hshed, State.shedsNext, get_ofFn, shedFollows_eq]
    subst hs'
    rfl
  case hold =>
    rw [hzones] at hn
    have hatt : s'.periodGroup.mru.attention = s'.attentionNext := by rw [hu]
    rw [State.has, hatt]
    exact State.attentionNext_zoneHold (by subst hs'; exact ho) hn

end Sys2Proof.Machine

/-! ### The lights (chapter 6) -/

namespace Sys2Proof.Machine

open Safety

/-! #### Indications and patterns (R110 to R114, R119) -/

theorem State.active_iff (s : State) (b : BayId) (id : IndicationId) : s.active b id = true ↔ IndicationHolds s b id := by
  unfold State.active IndicationHolds
  fin_cases id
  all_goals simp [Fin.exists_fin_succ, -Fin.getElem_fin]
  · rw [← Fin.val_eq_zero_iff]
    exact eq_comm
  iterate 15 exact eq_comm
  · exact Option.isSome_iff_ne_none
  all_goals rfl

theorem levelAt_append (front : List PatternStep) (st : PatternStep) (back : List PatternStep) (k : Nat) (hk : k < st.duration) :
    levelAt (front ++ st :: back) ((front.map (·.duration)).sum + k) = st.on := by
  induction front with
  | nil => simp [levelAt, hk]
  | cons x xs ih =>
    simp only [List.cons_append, levelAt, List.map_cons, List.sum_cons]
    rw [if_neg (by omega), ← ih]
    congr 1
    omega

/-! #### The selection (R117) -/

/-- The first of two candidates is shown before the second. -/
def State.litBefore (s : State) (a b : IndicationId) : Prop :=
  s.tables.indications[b].level < s.tables.indications[a].level ∨
    (s.tables.indications[b].level = s.tables.indications[a].level ∧ a ≤ b)

theorem State.litBefore_antisymm {s : State} {a b : IndicationId} (hab : s.litBefore a b) (hba : s.litBefore b a) : a = b := by
  rcases hab with h | ⟨h, hle⟩
  · rcases hba with h' | ⟨h', -⟩
    · exact absurd h h'.asymm
    · exact absurd h' h.ne'
  · rcases hba with h' | ⟨-, hle'⟩
    · exact absurd h h'.ne'
    · exact le_antisymm hle hle'

/-- Over candidates in ascending order, the choice one by one gives the one that is shown before all. -/
theorem State.foldl_betterLight (s : State) (l : List IndicationId) (hsorted : l.Pairwise (· < ·)) :
    (l = [] ∧ l.foldl s.betterLight none = none) ∨
      ∃ c ∈ l, l.foldl s.betterLight none = some c ∧ ∀ x ∈ l, s.litBefore c x := by
  induction l using List.reverseRecOn with
  | nil => exact .inl ⟨rfl, rfl⟩
  | append_singleton l x ih =>
    obtain ⟨hl, -, hlast⟩ := List.pairwise_append.mp hsorted
    have hself : s.litBefore x x := .inr ⟨rfl, le_refl x⟩
    refine .inr ?_
    rw [List.foldl_append]
    rcases ih hl with ⟨rfl, h⟩ | ⟨c, hc, h, hbest⟩
    · rw [h]
      exact ⟨x, List.mem_cons_self, rfl, fun y hy => by rw [List.mem_singleton.mp hy]; exact hself⟩
    · rw [h]
      have hlt : c < x := hlast c hc x List.mem_cons_self
      by_cases hlevel : s.tables.indications[c].level < s.tables.indications[x].level
      · refine ⟨x, by simp, if_pos hlevel, fun y hy => ?_⟩
        rcases List.mem_append.mp hy with hy | hy
        · rcases hbest y hy with hyc | ⟨hyc, -⟩
          · exact .inl (hyc.trans hlevel)
          · exact .inl (hyc.trans_lt hlevel)
        · rw [List.mem_singleton.mp hy]
          exact hself
      · refine ⟨c, by simp [hc], if_neg hlevel, fun y hy => ?_⟩
        rcases List.mem_append.mp hy with hy | hy
        · exact hbest y hy
        · rw [List.mem_singleton.mp hy]
          exact (lt_or_eq_of_le (not_lt.mp hlevel)).imp_right fun h => ⟨h, hlt.le⟩

theorem State.lightCandidate_iff (s : State) (b : BayId) (ln : LineName) (id : IndicationId) :
    s.lightCandidate b ln id = true ↔ Candidate s b ln id := by
  simp only [State.lightCandidate, Bool.and_eq_true, decide_eq_true_eq, and_assoc]
  exact Iff.rfl

theorem State.mem_candidates (s : State) (b : BayId) (ln : LineName) (id : IndicationId) :
    id ∈ (List.finRange 32).filter (s.lightCandidate b ln) ↔ Candidate s b ln id := by
  rw [List.mem_filter, s.lightCandidate_iff]
  simp

theorem State.shownFor_spec (s : State) (b : BayId) (ln : LineName) :
    ((∀ id, ¬ Candidate s b ln id) ∧ s.shownFor b ln = none) ∨
      ∃ c, Candidate s b ln c ∧ s.shownFor b ln = some c ∧ ∀ id, Candidate s b ln id → s.litBefore c id := by
  rcases s.foldl_betterLight _ (sorted_filter_finRange (s.lightCandidate b ln)) with ⟨hnil, h⟩ | ⟨c, hc, h, hbest⟩
  · refine .inl ⟨fun id hid => ?_, h⟩
    have hmem := (s.mem_candidates b ln id).mpr hid
    rw [hnil] at hmem
    cases hmem
  · exact .inr ⟨c, (s.mem_candidates b ln c).mp hc, h, fun id hid => hbest id ((s.mem_candidates b ln id).mpr hid)⟩

theorem State.shownFor_eq_none_iff (s : State) (b : BayId) (ln : LineName) : s.shownFor b ln = none ↔ ∀ id, ¬ Candidate s b ln id := by
  rcases s.shownFor_spec b ln with ⟨hno, h⟩ | ⟨c, hc, h, -⟩
  · exact ⟨fun _ => hno, fun _ => h⟩
  · rw [h]
    exact ⟨fun h' => absurd h' (by simp), fun h' => absurd hc (h' c)⟩

theorem State.shownFor_eq_some_iff (s : State) (b : BayId) (ln : LineName) (id : IndicationId) :
    s.shownFor b ln = some id ↔ Candidate s b ln id ∧ ∀ id', Candidate s b ln id' → s.litBefore id id' := by
  rcases s.shownFor_spec b ln with ⟨hno, h⟩ | ⟨c, hc, h, hbest⟩
  · rw [h]
    exact ⟨fun h' => absurd h' (by simp), fun h' => absurd h'.1 (hno id)⟩
  · rw [h]
    constructor
    · intro h'
      cases h'
      exact ⟨hc, hbest⟩
    · exact fun ⟨hid, hbest'⟩ => congrArg some (State.litBefore_antisymm (hbest id hid) (hbest' c hc))

/-! #### The tick (R118 to R124) -/

theorem State.tickLine_dark {s : State} {b : BayId} {ln : LineName} (h : s.shownFor b ln = none) (l : Line) :
    s.tickLine b ln l = { l with shown := none, pattern := none, offset := 0, engine := false, driven := l.manual.getD false } := by
  simp only [State.tickLine, h, Option.bind_none]

theorem State.tickLine_shared {s : State} {b : BayId} {ln : LineName} {id : IndicationId} {p : PatternId} (h : s.shownFor b ln = some id)
    (hp : (s.tables.indications[id]).patternFor ln = some p) (hm : s.tables.patterns[p].mode = .shared) (l : Line) :
    s.tickLine b ln l = { l with
      shown := some id, pattern := some p, offset := 0
      engine := levelAt s.tables.patterns[p].steps (s.len.clock % s.tables.patterns[p].length)
      driven := l.manual.getD (levelAt s.tables.patterns[p].steps (s.len.clock % s.tables.patterns[p].length)) } := by
  simp only [State.tickLine, h, Option.bind_some, hp, hm]

/-- The offset of a RESTART pattern after a tick (R122). -/
def State.restartOffset (s : State) (l : Line) (id : IndicationId) (p : PatternId) : Nat :=
  if l.shown ≠ some id ∨ l.pattern ≠ some p ∨ s.len.written[p] = true ∨ s.tables.patterns[p].length ≤ l.offset + 1 then 0 else l.offset + 1

theorem State.tickLine_restart {s : State} {b : BayId} {ln : LineName} {id : IndicationId} {p : PatternId} (h : s.shownFor b ln = some id)
    (hp : (s.tables.indications[id]).patternFor ln = some p) (hm : s.tables.patterns[p].mode = .restart) (l : Line) :
    s.tickLine b ln l = { l with
      shown := some id, pattern := some p, offset := s.restartOffset l id p
      engine := levelAt s.tables.patterns[p].steps (s.restartOffset l id p)
      driven := l.manual.getD (levelAt s.tables.patterns[p].steps (s.restartOffset l id p)) } := by
  have hoffset : (if some id ≠ l.shown ∨ l.pattern ≠ some p ∨ s.len.written[p] = true then 0
      else if l.offset + 1 < s.tables.patterns[p].length then l.offset + 1 else 0) = s.restartOffset l id p := by
    simp only [State.restartOffset, ne_comm (a := some id)]
    by_cases h3 : l.shown ≠ some id ∨ l.pattern ≠ some p ∨ s.len.written[p] = true
    · rw [if_pos h3, if_pos (by tauto)]
    · rw [if_neg h3]
      by_cases h4 : l.offset + 1 < s.tables.patterns[p].length
      · rw [if_pos h4, if_neg fun hor => ?_]
        rcases hor with h | h | h | h
        · exact h3 (.inl h)
        · exact h3 (.inr (.inl h))
        · exact h3 (.inr (.inr h))
        · exact absurd h4 (not_lt.mpr h)
      · rw [if_neg h4, if_pos (.inr (.inr (.inr (not_lt.mp h4))))]
  simp only [State.tickLine, h, Option.bind_some, hp, hm, hoffset]

/-- What a line is after a light tick, as the statement says it. -/
theorem State.tickLine_spec (s : State) (b : BayId) (ln : LineName) (old : Line) :
    let new := s.tickLine b ln old
    new.manual = old.manual ∧ new.driven = new.manual.getD new.engine ∧ new.shown = s.shownFor b ln ∧
      (new.shown = none → new.pattern = none ∧ new.offset = 0 ∧ new.engine = false) ∧
      ∀ id : IndicationId, new.shown = some id →
        ∃ p : PatternId, (s.tables.indications[id]).patternFor ln = some p ∧ new.pattern = some p ∧
          (s.tables.patterns[p].mode = .shared →
            new.offset = 0 ∧ new.engine = levelAt s.tables.patterns[p].steps (s.len.clock % s.tables.patterns[p].length)) ∧
          (s.tables.patterns[p].mode = .restart →
            new.engine = levelAt s.tables.patterns[p].steps new.offset ∧ new.offset = s.restartOffset old id p) := by
  intro new
  cases hshown : s.shownFor b ln with
  | none =>
    have hnew : new = _ := State.tickLine_dark hshown old
    rw [hnew]
    exact ⟨rfl, rfl, rfl, fun _ => ⟨rfl, rfl, rfl⟩, fun id h => absurd h (by simp)⟩
  | some id =>
    obtain ⟨⟨-, hsome, -⟩, -⟩ := (s.shownFor_eq_some_iff b ln id).mp hshown
    obtain ⟨p, hp⟩ := Option.isSome_iff_exists.mp hsome
    cases hm : s.tables.patterns[p].mode with
    | shared =>
      have hnew : new = _ := State.tickLine_shared hshown hp hm old
      rw [hnew]
      refine ⟨rfl, rfl, rfl, fun h => absurd h (by simp), fun id' h => ?_⟩
      cases h
      exact ⟨p, hp, rfl, fun _ => ⟨rfl, rfl⟩, fun h => absurd (hm.symm.trans h) (by decide)⟩
    | restart =>
      have hnew : new = _ := State.tickLine_restart hshown hp hm old
      rw [hnew]
      refine ⟨rfl, rfl, rfl, fun h => absurd h (by simp), fun id' h => ?_⟩
      cases h
      exact ⟨p, hp, rfl, fun h => absurd (hm.symm.trans h) (by decide), fun _ => ⟨rfl, rfl⟩⟩

theorem exec_lightTick_of_due {s : State} {n : Nat} (hr : s.phase = .running) (hn : s.tb.nextLight = some n) (hle : n ≤ s.tb.now) :
    exec .lightTick s = .next (State.lightWork { s with tb := { s.tb with nextLight := some (n + 10) } }) := by
  have hdue : s.phase = .running ∧ reached s.tb.nextLight s.now = true := ⟨hr, by rw [hn]; exact decide_eq_true hle⟩
  refine (if_pos hdue).trans ?_
  rw [hn]
  rfl

/-- Settles O33: the selection is that of the fold over the candidates, and each line's phase follows its pattern's mode. -/
theorem lightTickShowsTheHighestCandidate : Obligations.LightTickShowsTheHighestCandidate := by
  refine ⟨State.active_iff, levelAt_append, fun p => rfl, fun s n hr hn hle => ⟨_, exec_lightTick_of_due hr hn hle, rfl, fun b id => ?active, fun b ln => ?line⟩⟩
  case active =>
    simp only [State.lightWork, get_ofFn]
    rfl
  case line =>
    intro new old
    have hnew : new = s.tickLine b ln old := by
      cases ln <;> exact get_ofFn _ _
    obtain ⟨hmanual, hdriven, hshown, hdark, hlit⟩ := s.tickLine_spec b ln old
    rw [hnew]
    refine ⟨hmanual, hdriven, ?_, fun id => ?_, hdark, hlit⟩
    · rw [hshown]
      exact s.shownFor_eq_none_iff b ln
    · rw [hshown]
      exact s.shownFor_eq_some_iff b ln id

end Sys2Proof.Machine

/-! ### Resets and start-up (chapter 10) -/

namespace Sys2Proof.Machine

open Safety

/-! #### The controller reset (R189) -/

theorem BayRecord.onReset_eq (r : BayRecord) :
    r.onReset =
      match r.state with
      | .queued => { r with state := .presentOff }
      | .ramping =>
        { r with state := .presentOff, charge12 := 0, charge5 := 0, steady12 := 0, rampDeadline := none, pgDeadline := none }
      | .removing => { r with state := .parked, drainDeadline := none }
      | .powerFault => { r with state := .presentOff, backoffDeadline := none }
      | _ => r := by
  unfold BayRecord.onReset
  rcases r.state.eq_one_of_ten with h | h | h | h | h | h | h | h | h | h <;> simp only [h, BayRecord.unpowered]

theorem BayRecord.onReset_powered {r : BayRecord} (h : r.state = .powered) : r.onReset = r := by
  simp only [BayRecord.onReset, h]

/-- After a controller reset power is on in the POWERED bays alone (R26). -/
theorem BayRecord.onReset_live (r : BayRecord) : r.onReset.state.live = decide (r.state = .powered) := by
  unfold BayRecord.onReset
  rcases r.state.eq_one_of_ten with h | h | h | h | h | h | h | h | h | h <;> simp only [h] <;> rfl

theorem BayRecord.onReset_state_powered (r : BayRecord) : r.onReset.state = .powered ↔ r.state = .powered := by
  unfold BayRecord.onReset
  rcases r.state.eq_one_of_ten with h | h | h | h | h | h | h | h | h | h <;> simp [h]

/-- The sum over the bays that a controller reset leaves with power is the sum over those that are POWERED. -/
theorem liveSum_onReset (bays : Vector BayRecord 24) (f : BayRecord → Nat) (p : BayId → Prop) [DecidablePred p] :
    liveSum (Vector.ofFn fun b => (bays[b]).onReset) f (fun b => decide (p b)) =
      ∑ b : BayId, if bays[b].state = .powered ∧ p b then f bays[b] else 0 := by
  refine Finset.sum_congr rfl fun b _ => ?_
  simp only [get_ofFn, BayRecord.onReset_live, Bool.and_eq_true, decide_eq_true_eq]
  by_cases h : bays[b].state = .powered ∧ p b
  · rw [if_pos h, if_pos h, BayRecord.onReset_powered h.1]
  · rw [if_neg h, if_neg h]

theorem State.controllerReset_psq (s : State) (byPin : Bool) :
    (s.controllerReset byPin).psq = { s.psq with
      queue := []
      committed12 := ∑ b : BayId, if s.bays[b].state = .powered then s.bays[b].charge12 else 0
      committed5 := ∑ b : BayId, if s.bays[b].state = .powered then s.bays[b].charge5 else 0
      branch := Vector.ofFn fun g => ∑ b : BayId, if s.bays[b].state = .powered ∧ groupOf b = g then s.bays[b].charge12 else 0
      rampingCount := 0, quiescePending := false, shed := Vector.replicate 3 .idle } := by
  have hall (f : BayRecord → Nat) := liveSum_onReset s.bays f fun _ => True
  have hgroup (g : GroupId) := liveSum_onReset s.bays (·.charge12) fun b => groupOf b = g
  simp only [and_true] at hall
  simp only [← hall, ← hgroup]
  rfl

theorem State.controllerReset_drive (s : State) (byPin : Bool) (b : BayId) :
    (s.controllerReset byPin).drives[b] =
      if s.bays[b].state = .powered then { s.drives[b] with state := .stale, reportTime := none }
      else { state := .absent, value := none, reportTime := none } := by
  have hdrives : (s.controllerReset byPin).drives[b] =
      if (s.bays[b]).onReset.state = .powered then (s.drives[b]).goStale else Drive.clear := by
    unfold State.controllerReset
    simp only [get_ofFn]
  rw [hdrives]
  simp only [BayRecord.onReset_state_powered]
  rfl

theorem State.controllerReset_len (s : State) (byPin : Bool) :
    (s.controllerReset byPin).len = { s.len with
      lineA := Vector.ofFn fun b => (s.len.lineA[b]).onReset, lineB := Vector.ofFn fun b => (s.len.lineB[b]).onReset } := by
  simp only [State.controllerReset]

theorem Cmp.landSent_of_none {c : Cmp} (h : c.sentWrite = none) : c.landSent = c.mem := by
  simp only [Cmp.landSent, h]

theorem Cmp.landSent_of_some {c : Cmp} {w : SaveWrite} (h : c.sentWrite = some w) : c.landSent = Memory.writeBytes c.mem w.offset w.bytes := by
  simp only [Cmp.landSent, h]

theorem Cmp.sentWrite_of_not_saving {c : Cmp} (h : isSaving c.state = false) : c.sentWrite = none := by
  cases hw : c.sentWrite with
  | none => rfl
  | some w =>
    obtain ⟨⟨rest, hstate⟩, -⟩ := Cmp.sentWrite_eq_some.mp hw
    rw [hstate] at h
    cases h

/-- Settles O6: the reset's fields, one by one. -/
theorem controllerResetInEveryBlock : Obligations.ControllerResetInEveryBlock := by
  intro s byPin
  refine ⟨exec_controllerReset_of_started, _, rfl, by simp, by simp, by simp, by simp, by simp, by simp, by simp, by simp, by simp, by simp, by simp,
    by simp, fun b => ?bays, fun b => ?inputs, s.controllerReset_psq byPin, s.controllerReset_drive byPin, fun z => ?zones, fun f => ?fans,
    fun b => ?smap, fun b => ?lines, by rw [State.controllerReset_len], by rw [State.controllerReset_len], by rw [State.controllerReset_len],
    by rw [State.controllerReset_len], by simp, by simp, by simp, by simp, by simp, by rw [State.controllerReset_cmp]; rfl, by simp, by simp,
    ⟨_, writeCycleMs_le s.freeCount, ?answers⟩, fun h => ?unsent, fun w rest hsave hwait => ?sent⟩
  case bays =>
    rw [State.controllerReset_bay]
    exact (s.bays[b]).onReset_eq
  case inputs => rw [State.controllerReset_inputs, get_ofFn]
  case zones => rw [State.controllerReset_zones, get_ofFn]
  case fans =>
    rw [State.controllerReset_fans, get_ofFn]
    rfl
  case smap =>
    rw [State.controllerReset_smap, get_replicate]
    rfl
  case lines =>
    rw [State.controllerReset_len, get_ofFn, get_ofFn]
    exact ⟨rfl, rfl⟩
  case answers =>
    rw [State.controllerReset_cmp]
    exact s.cmp.answersAfterReset_eq s.freeCount
  case unsent =>
    rw [State.controllerReset_cmp]
    exact Cmp.landSent_of_none (h.elim Cmp.sentWrite_of_not_saving Cmp.sentWrite_of_waiting_not)
  case sent =>
    have hsent : s.cmp.sentWrite = some w := Cmp.sentWrite_eq_some.mpr ⟨⟨rest, hsave⟩, Option.ne_none_iff_exists'.mp hwait⟩
    rw [State.controllerReset_cmp]
    simp only [Cmp.landSent_of_some hsent]
    exact ⟨fun a ha => Memory.read_writeBytes_outside _ _ ha, fun hwf i hi => Memory.read_writeBytes_inside _ _ hwf i hi⟩

/-! #### The installation of the tables (R185 to R187) -/

theorem attentionHas_raise_iff (a : BitVec 15) (k k' : AttentionKind) :
    attentionHas (attentionRaise a k) k' = true ↔ attentionHas a k' = true ∨ k = k' := by
  unfold attentionHas attentionRaise
  rw [BitVec.getLsbD_or, Bool.or_eq_true, BitVec.getLsbD_twoPow]
  refine or_congr_right ?_
  cases k <;> cases k' <;> decide

theorem Limits.clamp_eq (l : Limits) (p : Psq) : l.clamp p = Raised l p := rfl

theorem max_eq_left_iff_not_lt {a b : Nat} : max a b = a ↔ ¬ a < b := by rw [max_eq_left_iff, not_lt]

/-- The clamp changes the record exactly where a budget lies below its committed charge (R186). -/
theorem Limits.clamp_ne_iff (l : Limits) (p : Psq) : l.clamp p ≠ l ↔ BudgetBelow l p := by
  have hbranch : (Vector.ofFn fun g : GroupId => max l.branch[g] p.branch[g]) = l.branch ↔ ∀ g : GroupId, ¬ l.branch[g] < p.branch[g] := by
    constructor
    · intro h g
      rw [← max_eq_left_iff_not_lt, ← get_ofFn (fun g : GroupId => max l.branch[g] p.branch[g]) g, h]
    · exact fun h => vector_ext fun g => (get_ofFn _ g).trans (max_eq_left_iff_not_lt.mpr (h g))
  have heq : l.clamp p = l ↔ ¬ l.rail12 < p.committed12 ∧ ¬ l.rail5 < p.committed5 ∧ ∀ g : GroupId, ¬ l.branch[g] < p.branch[g] := by
    rw [← max_eq_left_iff_not_lt, ← max_eq_left_iff_not_lt, ← hbranch]
    constructor
    · exact fun h => ⟨congrArg Limits.rail12 h, congrArg Limits.rail5 h, congrArg Limits.branch h⟩
    · rintro ⟨h12, h5, hb⟩
      rw [Limits.clamp, h12, h5, hb]
  rw [Ne, heq, BudgetBelow, ← not_exists, ← not_or, ← not_or, not_not]

/-- The limits that an installation puts into force (R186). -/
def State.limitsLoaded (s : State) (mf : Bool) : Limits := Raised (loadTables mf s.cmp.mem).1.limits s.psq

/-- The tables that an installation puts into force (R186, R187). -/
def State.tablesLoaded (s : State) (mf : Bool) : Tables := { (loadTables mf s.cmp.mem).1 with limits := s.limitsLoaded mf }

/-- The installation, field by field (R187). -/
theorem State.install_eq (s : State) (mf : Bool) :
    s.install mf = { s with
      tables := s.tablesLoaded mf
      bays := Vector.ofFn fun b => (s.bays[b]).adoptClass (s.tablesLoaded mf).baySettings[b].cls
      cmp := { s.cmp with
        state := .idle, waitStart := none, readStart := none, defaulted := (loadTables mf s.cmp.mem).2
        clamped := (s.install mf).cmp.clamped }
      mru := { s.mru with attention := (s.install mf).mru.attention } } := by
  unfold State.install State.raiseIf
  simp only
  split <;> split <;> rfl

theorem BayRecord.adoptClass_of_not_live {r : BayRecord} (h : r.state.live = false) (c : ClassId) : r.adoptClass c = { r with cls := c } :=
  if_neg (by rw [h]; decide)

theorem BayRecord.adoptClass_of_live {r : BayRecord} (h : r.state.live = true) (c : ClassId) : r.adoptClass c = r := if_pos h

theorem BayRecord.adoptClass_frame (r : BayRecord) (c : ClassId) : r.adoptClass c = { r with cls := (r.adoptClass c).cls } := by
  unfold BayRecord.adoptClass
  split <;> rfl

theorem State.has_raiseIf (s : State) (c : Bool) (k k' : AttentionKind) : (s.raiseIf c k).has k' = true ↔ s.has k' = true ∨ (c = true ∧ k = k') := by
  cases c with
  | false => simp [State.raiseIf]
  | true =>
    rw [and_iff_right rfl]
    exact attentionHas_raise_iff _ _ _

/-- An installation clamps where a budget of the loaded record lies below its committed charge (R186). -/
abbrev State.clampsAt (s : State) (mf : Bool) : Prop := BudgetBelow (loadTables mf s.cmp.mem).1.limits s.psq

theorem State.install_clamped (s : State) (mf : Bool) (i : Fin 11) :
    (s.install mf).cmp.clamped[i] = true ↔ i.val = TableId.code .limits ∧ s.clampsAt mf := by
  unfold State.install
  simp only [State.raiseIf_cmp]
  rw [get_ofFn, Bool.and_eq_true, decide_eq_true_eq, decide_eq_true_eq, Limits.clamp_ne_iff]
  exact and_comm

theorem State.install_has_configDefault (s : State) (mf : Bool) :
    (s.install mf).has .configDefault = true ↔ s.has .configDefault = true ∨ (loadTables mf s.cmp.mem).2 ≠ Vector.replicate 11 false := by
  unfold State.install
  simp only [State.has_raiseIf, decide_eq_true_eq, and_true, reduceCtorEq, and_false, or_false]
  exact Iff.rfl

theorem State.install_has_configClamped (s : State) (mf : Bool) :
    (s.install mf).has .configClamped = true ↔ s.has .configClamped = true ∨ s.clampsAt mf := by
  unfold State.install
  simp only [State.has_raiseIf, decide_eq_true_eq, and_true, reduceCtorEq, and_false, or_false, Limits.clamp_ne_iff]
  exact Iff.rfl

theorem exec_loadCompletion_powerOn {s : State} (h : s.phase = .powerOnLoad) (mf : Bool) :
    exec (.loadCompletion mf) s = .next (s.install mf).startPart := by
  change execLoadCompletion mf s = _
  unfold execLoadCompletion
  rw [h]

theorem exec_loadCompletion_reset {s : State} (h : s.phase = .resetLoad) (mf : Bool) :
    exec (.loadCompletion mf) s = .next ((s.install mf).finishReset s.tables.fans) := by
  change execLoadCompletion mf s = _
  unfold execLoadCompletion
  rw [h]

/-! #### The start of the part (R188) -/

theorem State.startPart_bay (s : State) (b : BayId) :
    s.startPart.bays[b] = if s.inputs[b].presPin = true ∧ s.bays[b].state = .empty then { s.bays[b] with state := .settling } else s.bays[b] := by
  unfold State.startPart
  simp only [get_ofFn, Bool.and_eq_true, decide_eq_true_eq]

theorem State.startPart_input (s : State) (b : BayId) :
    s.startPart.inputs[b] = { s.inputs[b] with
      presLast := some s.inputs[b].presPin, pgLast := some s.inputs[b].pgPin, fltLast := some s.inputs[b].fltPin
      settleStart := if s.inputs[b].presPin = true ∧ s.bays[b].state = .empty then some s.now else s.inputs[b].settleStart } := by
  unfold State.startPart
  simp only [get_ofFn, Bool.and_eq_true, decide_eq_true_eq]
  rfl

theorem State.startPart_fan (s : State) (f : FanId) :
    s.startPart.fans[f] = { s.fans[f] with
      divisor := 250000 / s.tables.fans[f].pwmFrequency, compare := 250000 / s.tables.fans[f].pwmFrequency, grace := some s.now, pulses := 0 } := by
  unfold State.startPart
  simp only [get_ofFn]
  rfl

/-- Settles O7: the installation, and then the start of each block. -/
theorem powerOnLoadStartsThePart : Obligations.PowerOnLoadStartsThePart := by
  intro mf s hs
  have hi := s.install_eq mf
  have hclamped := s.install_clamped mf
  have hdefault := s.install_has_configDefault mf
  have hclamp := s.install_has_configClamped mf
  have hexec := exec_loadCompletion_powerOn hs mf
  generalize s.install mf = x at hi hclamped hdefault hclamp hexec
  have hcmp := x.startPart_cmp
  have hhas (k : AttentionKind) : x.startPart.has k = x.has k := by rw [State.has, State.startPart_mru, State.has]
  have hnow : x.now = s.tb.now := by rw [hi]; rfl
  have htables : x.startPart.tables = s.tablesLoaded mf := by rw [State.startPart_tables, hi]
  have hbay (b : BayId) : x.bays[b] = (s.bays[b]).adoptClass (s.tablesLoaded mf).baySettings[b].cls := by rw [hi, get_ofFn]
  have hinputs : x.inputs = s.inputs := by rw [hi]
  have hempty {b : BayId} (hb : s.bays[b].state = .empty) :
      x.bays[b] = { s.bays[b] with cls := (s.tablesLoaded mf).baySettings[b].cls } := by
    rw [hbay, BayRecord.adoptClass_of_not_live (by rw [hb]; rfl)]
  refine ⟨x.startPart, hexec, x.startPart_phase, ?idle, ?wait, ?read, ?mem, ?uptime, ?start, ?light, ?period, htables, ?defaulted, ?hasDefault, ?clamped, ?hasClamped,
    fun b hb => ⟨?state, ?cls, fun hpin => ?settle⟩, fun b => ?inputs, fun f => ?fans, by rw [x.startPart_len]; rfl, ?liu, ?psq, ?sensors,
    x.startPart_converted, ?drives, ?zones, ?smap⟩
  case idle | wait | read | mem | defaulted => rw [hcmp, hi]
  case uptime =>
    rw [State.uptime, State.uptimeAt, State.now, State.startPart_tb]
    simp [Timebase.align, State.now]
  case start => rw [x.startPart_tb, hnow]
  case light | period =>
    rw [x.startPart_tb, ← hnow]
    rfl
  case hasDefault => rw [hhas, hdefault]
  case clamped => exact fun i => by rw [hcmp]; exact hclamped i
  case hasClamped => rw [hhas, hclamp]
  case state =>
    rw [State.startPart_bay, hinputs, hempty hb]
    by_cases hpin : s.inputs[b].presPin = true
    · rw [if_pos ⟨hpin, hb⟩, if_pos hpin]
    · rw [if_neg fun h => hpin h.1, if_neg hpin]
      exact hb
  case cls =>
    rw [State.startPart_bay, htables, hempty hb]
    split <;> rfl
  case settle => rw [State.startPart_input, hinputs, hempty hb, if_pos ⟨hpin, hb⟩, hnow]
  case inputs =>
    rw [State.startPart_input, hinputs]
    exact ⟨rfl, rfl, rfl⟩
  case fans =>
    rw [State.startPart_fan, State.startPart_tables, hnow]
    exact ⟨rfl, rfl, rfl, rfl⟩
  case liu =>
    rw [x.startPart_liu, hnow, hi]
    rfl
  case psq => rw [x.startPart_psq, hi]
  case sensors => rw [x.startPart_sensors, hi]
  case drives => rw [x.startPart_drives, hi]
  case zones => rw [x.startPart_zones, hi]
  case smap => rw [x.startPart_smap, hi]

/-! #### Restart completion (R189) -/

/-- The part at restart completion, before bays join the queue: `old` is the fan table from which the divisors were computed. -/
def State.restarted (s : State) (old : Vector FanSetting 6) : State :=
  { s with
    phase := .running
    tb := s.tb.align
    converted := 0
    inputs := Vector.ofFn fun b => { s.inputs[b] with settleStart := if s.bays[b].state = .settling then some s.now else none }
    psq := { s.psq with
      stagger := some s.now
      shed := Vector.ofFn fun z => if s.zones[z].shed then .delay s.now else s.psq.shed[z] }
    fans := Vector.ofFn fun f => (s.fans[f]).onRestart old[f].pwmFrequency s.tables.fans[f].pwmFrequency s.now
    len := s.len.start
    liu := s.liu.enterListen s.now }

theorem State.finishReset_eq (s : State) (old : Vector FanSetting 6) :
    s.finishReset old = ((s.restarted old).enterQueuedAll (s.restarted old).reenqueued).consider := rfl

theorem State.reenqueued_iff (s : State) (b : BayId) :
    s.reenqueued b = true ↔
      (s.bays[b].state = .presentOff ∧ s.tables.baySettings[b].policy = .auto) ∨
      (s.bays[b].state = .parked ∧ s.bays[b].shedParked = true) ∨
      (s.bays[b].state = .powerFault ∧ ∃ d, s.bays[b].backoffDeadline = some d ∧ d ≤ s.tb.now) := by
  simp only [State.reenqueued, Bool.or_eq_true, Bool.and_eq_true, decide_eq_true_eq, reached_iff, or_assoc]
  exact Iff.rfl

/-- An entry stands before another in a queue that bays have joined in ascending number (R31, R32). -/
def QueueEntry.joinsBefore (x y : QueueEntry) : Prop := x.priority < y.priority ∨ (x.priority = y.priority ∧ x.bay < y.bay)

/-- Bays that join in ascending number, behind a queue of lower numbers in that order, leave the queue in that order. -/
theorem State.pairwise_foldl_joinQueue (s : State) (bs : List BayId) (q : List QueueEntry) (hbs : bs.Pairwise (· < ·))
    (hq : q.Pairwise QueueEntry.joinsBefore) (hlt : ∀ e ∈ q, ∀ b ∈ bs, e.bay < b) : (bs.foldl s.joinQueue q).Pairwise QueueEntry.joinsBefore := by
  induction bs generalizing q with
  | nil => exact hq
  | cons b bs ih =>
    obtain ⟨hb, hbs⟩ := List.pairwise_cons.mp hbs
    refine ih (s.joinQueue q b) hbs ?_ fun e he x hx => ?_
    · have hle : q.Pairwise fun x y => x.priority ≤ y.priority := hq.imp fun h => h.elim le_of_lt fun h => h.1.le
      obtain ⟨front, back, rfl, hins, hfront, hback⟩ := insertEntry_split ⟨b, s.tables.baySettings[b].priority⟩ q hle
      obtain ⟨h1, h2, h3⟩ := List.pairwise_append.mp hq
      rw [State.joinQueue, hins, List.pairwise_append]
      refine ⟨h1, List.pairwise_cons.mpr ⟨fun y hy => .inl (hback y hy), h2⟩, fun x hx y hy => ?_⟩
      rcases List.mem_cons.mp hy with rfl | hy
      · have hxb : x.bay < b := hlt x (List.mem_append_left _ hx) b List.mem_cons_self
        exact (lt_or_eq_of_le (hfront x hx)).imp_right fun h => ⟨h, hxb⟩
      · exact h3 x hx y hy
    · rcases mem_insertEntry.mp he with rfl | he
      · exact hb x hx
      · exact hlt e he x (List.mem_cons_of_mem _ hx)

theorem State.mem_foldl_joinQueue_entry (s : State) (bs : List BayId) (q : List QueueEntry) (e : QueueEntry) (he : e ∈ bs.foldl s.joinQueue q) :
    e ∈ q ∨ e.bay ∈ bs ∧ e.priority = s.tables.baySettings[e.bay].priority := by
  induction bs generalizing q with
  | nil => exact .inl he
  | cons b bs ih =>
    rcases ih _ he with h | ⟨hb, hp⟩
    · rcases mem_insertEntry.mp h with rfl | h
      · exact .inr ⟨List.mem_cons_self, rfl⟩
      · exact .inl h
    · exact .inr ⟨List.mem_cons_of_mem _ hb, hp⟩

theorem Fan.onRestart_eq (f : Fan) (old new now : Nat) :
    f.onRestart old new now = { f with
      divisor := if old = new then f.divisor else 250000 / new
      compare := if old = new then f.compare else f.duty * (250000 / new) / 1000
      grace := if f.state = .starting then some now else none
      pulses := 0 } := by
  unfold Fan.onRestart
  by_cases h : old = new
  · rw [if_pos h, if_pos h, if_pos h]
  · rw [if_neg h, if_neg h, if_neg h]
    rfl

/-- Settles O8: the installation, the restart of each block, and the bays that join. -/
theorem restartCompletionReenqueues : Obligations.RestartCompletionReenqueues := by
  intro mf s hs hnone
  have hi := s.install_eq mf
  have hclamped := s.install_clamped mf
  have hdefault := s.install_has_configDefault mf
  have hclamp := s.install_has_configClamped mf
  have hexec := exec_loadCompletion_reset hs mf
  generalize s.install mf = x at hi hclamped hdefault hclamp hexec
  have hu := (x.restarted s.tables.fans).enterQueuedAll_eq (x.restarted s.tables.fans).reenqueued
  rw [State.finishReset_eq] at hexec
  have hbay (b : BayId) : x.bays[b] = (s.bays[b]).adoptClass (s.tablesLoaded mf).baySettings[b].cls := by rw [hi, get_ofFn]
  have htab : x.tables = s.tablesLoaded mf := by rw [hi]
  have htb : x.tb = s.tb := by rw [hi]
  have hpsq : x.psq = s.psq := by rw [hi]
  have hzones : x.zones = s.zones := by rw [hi]
  have hfans : x.fans = s.fans := by rw [hi]
  have hstate (b : BayId) : x.bays[b].state = s.bays[b].state := by rw [hbay, BayRecord.adoptClass_frame]
  have hshed (b : BayId) : x.bays[b].shedParked = s.bays[b].shedParked := by rw [hbay, BayRecord.adoptClass_frame]
  have hbackoff (b : BayId) : x.bays[b].backoffDeadline = s.bays[b].backoffDeadline := by rw [hbay, BayRecord.adoptClass_frame]
  have hjoins (b : BayId) : (x.restarted s.tables.fans).reenqueued b = true ↔
      (s.bays[b].state = .presentOff ∧ (s.tablesLoaded mf).baySettings[b].policy = .auto) ∨
      (s.bays[b].state = .parked ∧ s.bays[b].shedParked = true) ∨
      (s.bays[b].state = .powerFault ∧ ∃ d, s.bays[b].backoffDeadline = some d ∧ d ≤ s.tb.now) := by
    rw [State.reenqueued_iff]
    simp only [State.restarted, hstate, hshed, hbackoff, htab, htb]
    exact Iff.rfl
  generalize hr : (x.restarted s.tables.fans).reenqueued = joins at hu hexec hjoins
  generalize (x.restarted s.tables.fans).enterQueuedAll joins = u at hu hexec
  have hcmp : u.cmp = x.cmp := by rw [hu]; rfl
  have hhas (k : AttentionKind) : u.has k = x.has k := by rw [hu]; rfl
  have hnow : x.now = s.tb.now := by rw [hi]; rfl
  have htables : u.tables = s.tablesLoaded mf := by rw [hu, State.restarted, hi]
  have hrecord (b : BayId) : u.bays[b] = if joins b = true then x.queuedRecord b else x.bays[b] := by rw [hu, get_ofFn]; rfl
  have hqueued (b : BayId) : u.bays[b].state = .queued ↔ joins b = true := by
    rw [hrecord]
    by_cases hj : joins b = true
    · rw [if_pos hj]
      exact iff_of_true rfl hj
    · rw [if_neg hj, hstate]
      exact iff_of_false (hnone b) hj
  have hqueue : u.psq.queue = joinedQueue x (fun b => joins b = true) s.psq.queue := by
    rw [hu, State.restarted, hi]
    exact joinedQueue_congr rfl (fun b => Iff.rfl) _
  have hpriority (b : BayId) : x.tables.baySettings[b] = u.tables.baySettings[b] := by rw [htables, hi]
  refine ⟨u, hexec, by rw [hu]; rfl, ?idle, ?wait, ?read, ?mem, ?start, ?light, ?period, htables, ?defaulted, ?hasDefault, ?clamped, ?hasClamped, ?rail12, ?rail5,
    fun g => ?branch, ?stagger, by rw [hu]; rfl, fun z => ?shed, fun b => ?queued, fun b hb => ⟨?cls, ?flag, ?member⟩, fun hnil => ⟨fun e he => ?entry, ?order⟩,
    fun b hb => ?powered, fun b hb => ?settling, by rw [hu]; rfl, ?liu, ?zones, fun f => ?fans⟩
  case idle | wait | read | mem | defaulted => rw [hcmp, hi]
  case start => rw [hu, State.restarted, hi]; rfl
  case light | period =>
    rw [hu, ← hnow]
    rfl
  case hasDefault => rw [hhas, hdefault]
  case clamped => exact fun i => by rw [hcmp]; exact hclamped i
  case hasClamped => rw [hhas, hclamp]
  case rail12 =>
    rw [htables, hu, State.restarted, hi]
    exact le_max_right _ _
  case rail5 =>
    rw [htables, hu, State.restarted, hi]
    exact le_max_right _ _
  case branch =>
    rw [htables, hu, State.restarted, hi]
    simp only [State.tablesLoaded, State.limitsLoaded, Raised, get_ofFn]
    exact le_max_right _ _
  case stagger => rw [hu, ← hnow]; rfl
  case shed =>
    rw [hu, ← hnow]
    simp only [State.restarted, get_ofFn, hzones, hpsq]
  case queued => rw [hqueued, hjoins, htables]
  case cls =>
    rw [hrecord, if_pos ((hqueued b).mp hb), ← hpriority]
    rfl
  case flag => rw [hrecord, if_pos ((hqueued b).mp hb)]; rfl
  case member =>
    rw [hqueue, mem_joinedQueue]
    exact .inl ((hqueued b).mp hb)
  case entry =>
    rw [hqueue, hnil] at he
    rcases x.mem_foldl_joinQueue_entry _ _ e he with h | ⟨hmem, hp⟩
    · cases h
    · refine ⟨(hqueued _).mpr ?_, by rw [hp, hpriority]⟩
      simpa using hmem
  case order =>
    rw [hqueue, hnil]
    exact x.pairwise_foldl_joinQueue _ [] (sorted_filter_finRange _) List.Pairwise.nil fun e he => absurd he List.not_mem_nil
  case powered =>
    have hj : ¬ joins b = true := by
      rw [hjoins, hb]
      simp
    rw [hrecord, if_neg hj, hbay, BayRecord.adoptClass_of_live (by rw [hb]; rfl)]
  case settling =>
    have hinput : u.inputs[b] = { x.inputs[b] with settleStart := if x.bays[b].state = .settling then some x.now else none } := by
      rw [hu]
      exact get_ofFn _ _
    rw [hinput, if_pos ((hstate b).trans hb), hnow]
  case liu =>
    rw [hu, ← hnow, State.restarted, hi]
    rfl
  case zones => rw [hu, State.restarted, hi]
  case fans =>
    have hfan : u.fans[f] = (s.fans[f]).onRestart s.tables.fans[f].pwmFrequency u.tables.fans[f].pwmFrequency s.tb.now := by
      rw [htables, hu]
      simp only [State.restarted, get_ofFn, hfans, htab, hnow]
    rw [hfan, Fan.onRestart_eq]
    refine ⟨rfl, rfl, fun h => if_pos h, fun h => ⟨if_pos h.symm, if_pos h.symm⟩, fun h => ⟨if_neg (Ne.symm h), ?_⟩⟩
    simp only [if_neg (Ne.symm h)]

end Sys2Proof.Machine

/-! ### What a command can do to the part

Every command is a short sequence of changes, each of one kind and each under the condition that the command gives it. The invariants, the rule on new power and the
frame of the time base are then proved change by change, and the commands are walked once. -/

namespace Sys2Proof.Machine

open Safety

/-! #### The kinds of change -/

/-- The link is lost (R48, R65, R82), said of the LIU. -/
def Liu.lost (l : Liu) : Prop := l.link = .lost ∨ (l.link = .fault ∧ l.lostLatch = true)

theorem State.linkLost_iff_lost (s : State) : s.linkLost = true ↔ s.liu.lost := s.linkLost_iff

/-- The LIU moves within its rules: it stays sound, the replies of a RESTART on their way stay, it is not enabled or disabled, and the link does not become lost. -/
structure Liu.Moves (l l' : Liu) : Prop where
  sound : LinkSound l → LinkSound l' ∧ restartReplies l' = restartReplies l
  disabled : l'.link = .disabled ↔ l.link = .disabled
  lost : l'.lost → l.lost

/-- The LIU is cleared of what waits on its return lane, and of the reply of a RESTART with it. -/
structure Liu.Empties (l l' : Liu) : Prop where
  sound : LinkSound l → LinkSound l'
  replies : LinkSound l → restartReplies l ≤ 1 → restartReplies l' = 0
  disabled : l'.link = .disabled ↔ l.link = .disabled

/-- The record r' holds power, charges and place as r does, and is sound where r is. -/
structure BayRecord.SameStanding (r r' : BayRecord) : Prop where
  live : r'.state.live = r.state.live
  ramping : r'.state = .ramping ↔ r.state = .ramping
  powered : r'.state = .powered ↔ r.state = .powered
  queued : r'.state = .queued ↔ r.state = .queued
  charge12 : r'.charge12 = r.charge12
  charge5 : r'.charge5 = r.charge5
  sound : BaySound r → BaySound r'

/-- The changes that a command may also make after a grant. -/
inductive Late (s : State) : State → Prop
  | free (inputs : Vector BayInput 24) (therm : Vector Int 4) (smap : Vector Applied 24) (count : Nat) (a : BitVec 15) :
    Late s { s with inputs := inputs, therm := therm, smap := smap, freeCount := count, mru := { s.mru with attention := a } }
  | link (l : Liu) (h : s.liu.Moves l) : Late s { s with liu := l }
  | sending (tag : Byte) (r : ReplyFrame) (hr : r.restart = true) (hc : s.liu.link.carriesFrames = true) (hn : s.liu.replyQueue.length < 4)
    (hm : isSending s.mru.state = false) : Late s { s with liu := s.liu.pushReply r, mru := { s.mru with state := .sending tag } }
  | reset (byPin : Bool) (h : s.phase = .running ∨ (byPin = true ∧ s.phase = .resetLoad) ∨ s.mru.state ≠ .idle) : Late s (s.controllerReset byPin)

/-- The changes that a command makes before any grant, and that take no bay out of RAMPING or REMOVING in a part that waits for quiesce. -/
inductive Calm (s : State) : State → Prop
  | lights (len : Len) (light : Option Nat) (h : LightsSound s → LightsSound { s with len := len })
    (hlight : light = none ↔ s.tb.nextLight = none) : Calm s { s with len := len, tb := { s.tb with nextLight := light } }
  | drive (b : BayId) (d : Drive) (h : DriveSound s.drives[b] → DriveSound d)
    (hp : d.state ≠ .absent → s.bays[b].state = .powered ∨ s.drives[b].state ≠ .absent) : Calm s (s.setDrive b d)
  | record (b : BayId) (r : BayRecord) (h : (s.bays[b]).SameStanding r) (hm : s.bays[b].state = .removing → r.state = .removing) :
    Calm s (s.setBay b r)
  | join (b : BayId) (hb : s.bays[b].state.live = false) (hq : s.bays[b].state ≠ .queued) (hm : s.bays[b].state ≠ .removing) : Calm s (Requeued s b)
  | sensor (k : SensorId) (x : Sensor) (reading : Int) (h : SensorSound s.sensors[k] → SensorSound x) (hx : x.state ≠ .pending)
    (hr : s.phase = .running) (hc : s.converted = k.castSucc) : Calm s (s.setConversion k x reading)
  | fan (f : FanId) (x : Fan) (h : FanSound s.fans[f] → FanSound x) (hd : x.divisor = s.fans[f].divisor) : Calm s (s.setFan f x)
  | period (p : Nat) (hr : s.phase = .running) (hp : s.tb.nextPeriod ≠ none) :
    Calm s (State.periodWork { s with tb := { s.tb with nextPeriod := some p }, converted := 0 })
  | shed (z : ZoneId) (r : ShedRecord) (h : s.psq.shed[z] ≠ .idle) (hr : r ≠ .idle) : Calm s (s.setShed z r)
  | stagger : Calm s { s with psq := { s.psq with stagger := none } }
  | save (c : Cmp) (saving : Bool) (h : ControlSound s → ControlSound { s with cmp := c, mru := { s.mru with saveInProgress := saving } })
    (hm : Memory.wf s.cmp.mem = true → Memory.wf c.mem = true) :
    Calm s { s with cmp := c, mru := { s.mru with saveInProgress := saving } }
  | powerOn : Calm s s.powerOnReset
  | release (p : Phase) (h : (s.phase = .powerOnHold ∧ p = .powerOnLoad) ∨ (s.phase = .resetHold ∧ p = .resetLoad)) :
    Calm s { s with phase := p, rstn := true, cmp := s.cmp.beginLoad s.now }
  | pulse (h : s.phase = .powerOnLoad) :
    Calm s { s with phase := .powerOnHold, rstn := false, cmp := { s.cmp with waitStart := none, readStart := none } }
  | start (mf : Bool) (h : s.phase = .powerOnLoad) : Calm s (s.install mf).startPart
  | restart (mf : Bool) (h : s.phase = .resetLoad) : Calm s ((s.install mf).restarted s.tables.fans)
  | tables (t : Tables) (hwf : s.tables.wf = true → t.wf = true) (hb : BudgetsSound s → BudgetsSound { s with tables := t }) :
    Calm s { s with
      tables := t, fans := Vector.ofFn fun f => (s.fans[f]).onWrite s.tables.fans[f].pwmFrequency t.fans[f].pwmFrequency s.now }
  | classes (c : BayId → ClassId) : Calm s { s with bays := Vector.ofFn fun b => (s.bays[b]).adoptClass (c b) }
  | lost (l : Liu) (h : LinkSound s.liu → LinkSound l ∧ restartReplies l = restartReplies s.liu)
    (hd : l.link = .disabled ↔ s.liu.link = .disabled) : Calm s (Lost s l)

/-- The changes that a command makes before any grant and that may bring quiesce. -/
inductive Stir (s : State) : State → Prop
  | record (b : BayId) (r : BayRecord) (h : (s.bays[b]).SameStanding r) : Stir s (s.setBay b r)
  | leave (b : BayId) (r : BayRecord) (hb : s.bays[b].state.live = false) (hr : r.state.live = false) (hq : r.state ≠ .queued)
    (h : BaySound s.bays[b] → BaySound r) :
    Stir s { s with bays := s.bays.set b r, psq := { s.psq with queue := s.psq.queue.filter fun e => e.bay != b } }
  | join (b : BayId) (hb : s.bays[b].state.live = false) (hq : s.bays[b].state ≠ .queued) : Stir s (Requeued s b)
  | off (b : BayId) (r : BayRecord) (hb : s.bays[b].state.live = true) (hr : r.state.live = false) (hq : r.state ≠ .queued)
    (h : BaySound s.bays[b] → s.tables.wf = true → BaySound r) : Stir s (s.powerOff b r)
  | ramped (b : BayId) (hb : s.bays[b].state = .ramping) : Stir s (s.ramped b)
  | quiesce (tag : Byte) (hr : s.phase = .running) (hm : s.mru.state = .idle) :
    Stir s { s with psq := { s.psq with quiescePending := true }, mru := { s.mru with state := .quiescing tag s.now } }

/-- The part t follows s by considerations alone. -/
inductive Grants (s : State) : State → Prop
  | none : Grants s s
  | grant {t : State} (h : Grants s t) (b : BayId) (hr : t.phase = .running) (hc : t.choice = some b) : Grants s (t.grant b)

/-- The LIU's return lane is emptied, the link becoming lost or not, a consideration follows where there is one, and a RESTART whose reply was lost ends (R138, R139, R143, R178). -/
inductive Cut (s : State) : State → Prop
  | emptied (l : Liu) (h : s.liu.Empties l) (hl : l.lost → s.liu.lost) (w : State) (hw : Grants { s with liu := l } w) : Cut s w.replyLost
  | lost (l : Liu) (h : s.liu.Empties l) (w : State) (hw : Grants (Lost s l) w) : Cut s w.replyLost

/-- The part waits for quiesce (R178). -/
def State.waitsForQuiesce (s : State) : Prop := s.mru.state ≠ .idle ∧ isSending s.mru.state = false

/-- The part t follows s by the changes of a command. With `granted` a grant may have been made; with `stirred` quiesce may have come and not been reported. -/
inductive Run (s : State) : (granted stirred : Bool) → State → Prop
  | nil : Run s false false s
  | weaken {g g' k k' : Bool} {t : State} (h : Run s g k t) (hg : g = true → g' = true) (hk : k = true → k' = true) : Run s g' k' t
  | late {g k : Bool} {t u : State} (h : Run s g k t) (hu : Late t u) : Run s g k u
  | calm {k : Bool} {t u : State} (h : Run s false k t) (hu : Calm t u) : Run s false k u
  | stir {k : Bool} {t u : State} (h : Run s false k t) (hu : Stir t u) : Run s false true u
  | grant {g k : Bool} {t : State} (h : Run s g k t) (b : BayId) (hr : t.phase = .running) (hc : t.choice = some b) : Run s true k (t.grant b)
  | cut {k : Bool} {t u : State} (h : Run s false k t) (hu : Cut t u) : Run s true k u
  | report {g k : Bool} {t : State} (h : Run s g k t.reportQuiesce) : Run s g false t.reportQuiesce
  | settled {g k : Bool} {t : State} (h : Run s g k t) (hm : ¬ t.waitsForQuiesce) : Run s g false t

/-- The command c takes s to a next state, by changes that leave no quiesce unreported. -/
def Runs (c : Instr) (s : State) : Prop := ∃ t g, exec c s = .next t ∧ Run s g false t

end Sys2Proof.Machine

/-! ### The moves of the LIU -/

namespace Sys2Proof.Machine

open Safety

/-! #### Composition -/

theorem Liu.Moves.refl (l : Liu) : l.Moves l := ⟨fun h => ⟨h, rfl⟩, Iff.rfl, id⟩

theorem Liu.Moves.trans {l m n : Liu} (h : l.Moves m) (h' : m.Moves n) : l.Moves n :=
  ⟨fun hl => ⟨(h'.sound (h.sound hl).1).1, (h'.sound (h.sound hl).1).2.trans (h.sound hl).2⟩, h'.disabled.trans h.disabled, fun hn => h.lost (h'.lost hn)⟩

theorem Liu.Moves.of_eq {l m : Liu} (h : m = l) : l.Moves m := h ▸ Liu.Moves.refl l

/-! #### The return lane (R149, R150) -/

/-- The replies of a RESTART that the lane itself carries. -/
def UpLane.restarts : UpLane → Nat
  | .reply r => if r.restart then 1 else 0
  | _ => 0

theorem restartReplies_eq (l : Liu) : restartReplies l = (l.replyQueue.filter (·.restart)).length + l.upLane.restarts := by
  unfold restartReplies UpLane.restarts
  cases l.upLane <;> rfl

/-- In a link that carries frames the return lane and what waits for it need only keep their bounds. -/
theorem linkSound_of_up {l l' : Liu} (hframe : UpFrame l l') (hc : l.link.carriesFrames = true)
    (hp : l.pendingReturns.length ≤ 3 → l'.pendingReturns.length ≤ 3) (hr : l.replyQueue.length ≤ 4 → l'.replyQueue.length ≤ 4)
    (h : LinkSound l) : LinkSound l' := by
  unfold UpFrame at hframe
  obtain ⟨h1, h2, h3, h4, h5, h6, h7, -, h9, h10, h11, h12⟩ := h
  rw [hframe]
  exact ⟨h1, h2, h3, hp h4, hr h5, h6, h7, fun hno => absurd (hc.symm.trans hno) (by decide), h9, h10, h11, h12⟩

/-- A move that touches the return lane and what waits for it alone, in a link that carries frames. -/
theorem Liu.Moves.of_up {l l' : Liu} (hframe : UpFrame l l') (hc : l.link.carriesFrames = true)
    (hp : l.pendingReturns.length ≤ 3 → l'.pendingReturns.length ≤ 3) (hr : l.replyQueue.length ≤ 4 → l'.replyQueue.length ≤ 4)
    (hrep : restartReplies l' = restartReplies l) : l.Moves l' := by
  refine ⟨fun h => ⟨linkSound_of_up hframe hc hp hr h, hrep⟩, ?_, fun h => ?_⟩ <;> unfold UpFrame at hframe
  · rw [hframe]
  · rw [hframe] at h
    exact h

theorem Liu.restartReplies_nextUp {l : Liu} (h : l.upLane.restarts = 0) : restartReplies l.nextUp = restartReplies l := by
  rw [restartReplies_eq, restartReplies_eq, h]
  rcases l.nextUp_cases with ⟨r, rs, hp, hn⟩ | ⟨q, qs, hp, hq, hn⟩ | ⟨hp, hq, hn⟩
  · rw [hn]
    rfl
  · rw [hn, hq]
    cases hr : q.restart <;> simp [UpLane.restarts, hr]
  · rw [hn, hq]
    rfl

theorem Liu.nextUp_lengths (l : Liu) : l.nextUp.pendingReturns.length ≤ l.pendingReturns.length ∧ l.nextUp.replyQueue.length ≤ l.replyQueue.length := by
  rcases l.nextUp_cases with ⟨r, rs, hp, hn⟩ | ⟨q, qs, hp, hq, hn⟩ | ⟨hp, hq, hn⟩ <;> rw [hn]
  · simp [hp]
  · simp [hq]
  · exact ⟨le_rfl, le_rfl⟩

theorem Liu.Moves.nextUp {l : Liu} (hc : l.link.carriesFrames = true) (h : l.upLane.restarts = 0) : l.Moves l.nextUp :=
  .of_up l.nextUp_frame hc l.nextUp_lengths.1.trans l.nextUp_lengths.2.trans (Liu.restartReplies_nextUp h)

theorem Liu.Moves.kickUp (l : Liu) : l.Moves l.kickUp := by
  unfold Liu.kickUp
  split
  · next h =>
    rw [Bool.and_eq_true, decide_eq_true_eq] at h
    exact .nextUp h.1 (by rw [h.2]; rfl)
  · exact .refl l

theorem Liu.Moves.pendReturn (l : Liu) (r : ReturnFrame) : l.Moves (l.pendReturn r) := by
  unfold Liu.pendReturn
  split
  · next h =>
    rw [Bool.and_eq_true, decide_eq_true_eq] at h
    have hjoin : l.Moves { l with pendingReturns := l.pendingReturns ++ [r] } :=
      .of_up rfl h.1 (fun _ => by simpa [Config.pendingReturnsMax] using Nat.succ_le_of_lt h.2) id rfl
    exact hjoin.trans (.kickUp _)
  · exact .refl l

theorem Liu.Moves.pushReply (l : Liu) {r : ReplyFrame} (hr : r.restart = false) : l.Moves (l.pushReply r) := by
  unfold Liu.pushReply
  split
  · next h =>
    rw [Bool.and_eq_true, decide_eq_true_eq] at h
    have hjoin : l.Moves { l with replyQueue := l.replyQueue ++ [r] } := by
      refine .of_up rfl h.1 id (fun _ => by simpa [Config.replyQueueMax] using Nat.succ_le_of_lt h.2) ?_
      rw [restartReplies_eq, restartReplies_eq, List.filter_append]
      simp [hr]
    exact hjoin.trans (.kickUp _)
  · exact .refl l

/-- The reply of a RESTART made ready is the one more on its way (R178). -/
theorem Liu.pushReply_restart {l : Liu} {r : ReplyFrame} (hr : r.restart = true) (hc : l.link.carriesFrames = true) (hn : l.replyQueue.length < 4) :
    (LinkSound l → LinkSound (l.pushReply r)) ∧ restartReplies (l.pushReply r) = restartReplies l + 1 ∧ (l.pushReply r).link = l.link ∧
      (l.pushReply r).lostLatch = l.lostLatch := by
  have hpush : l.pushReply r = Liu.kickUp { l with replyQueue := l.replyQueue ++ [r] } := by
    rw [Liu.pushReply, if_pos]
    rw [Bool.and_eq_true, decide_eq_true_eq]
    exact ⟨hc, hn⟩
  have hjoined (h : LinkSound l) : LinkSound { l with replyQueue := l.replyQueue ++ [r] } := by
    obtain ⟨h1, h2, h3, h4, h5, h6, h7, -, h9, h10, h11, h12⟩ := h
    exact ⟨h1, h2, h3, h4, by simpa using Nat.succ_le_of_lt hn, h6, h7, fun hno => absurd (hc.symm.trans hno) (by decide), h9, h10, h11, h12⟩
  have hkick := Liu.Moves.kickUp { l with replyQueue := l.replyQueue ++ [r] }
  have hcount : restartReplies { l with replyQueue := l.replyQueue ++ [r] } = restartReplies l + 1 := by
    rw [restartReplies_eq, restartReplies_eq, List.filter_append]
    simp [hr]
    omega
  have hkickCount : restartReplies (Liu.kickUp { l with replyQueue := l.replyQueue ++ [r] }) = restartReplies { l with replyQueue := l.replyQueue ++ [r] } := by
    unfold Liu.kickUp
    split
    · next h =>
      rw [Bool.and_eq_true, decide_eq_true_eq] at h
      exact Liu.restartReplies_nextUp (by rw [h.2]; rfl)
    · rfl
  have hframe := l.pushReply_frame r
  unfold UpFrame at hframe
  refine ⟨fun h => ?_, ?_, by rw [hframe], by rw [hframe]⟩
  · rw [hpush]
    exact (hkick.sound (hjoined h)).1
  · rw [hpush, hkickCount, hcount]

/-! #### The downstream port (R144 to R146) -/

/-- From l to l', nothing has changed but the downstream port, its timers, its lane and the frames that wait for it. -/
def PortFrame (l l' : Liu) : Prop :=
  l' = { l with
    port := l'.port, probeStart := l'.probeStart, probeCount := l'.probeCount, probeAnswer := l'.probeAnswer, retryDue := l'.retryDue
    returnWatch := l'.returnWatch, downLane := l'.downLane, forwardQueue := l'.forwardQueue }

/-- A move of the downstream port, where the link lets the port run or the port stays OFF and empty. -/
theorem Liu.Moves.of_port {l l' : Liu} (hframe : PortFrame l l')
    (hp : portMayRun l.link = false → l.port = .off → l.forwardQueue = [] → l.downLane = .idle → l'.port = .off ∧ l'.forwardQueue = [] ∧ l'.downLane = .idle) :
    l.Moves l' := by
  unfold PortFrame at hframe
  have hlink : l'.link = l.link := by rw [hframe]
  refine ⟨fun h => ⟨?_, ?_⟩, by rw [hlink], fun h => ?_⟩
  · obtain ⟨h1, h2, h3, h4, h5, h6, h7, h8, h9, h10, h11, h12⟩ := h
    rw [hframe]
    refine ⟨h1, h2, h3, h4, h5, h6, h7, h8, fun hno => ?_, h10, h11, h12⟩
    obtain ⟨hoff, hout, hq, hd⟩ := h9 hno
    obtain ⟨hoff', hq', hd'⟩ := hp hno hoff hq hd
    exact ⟨hoff', hout, hq', hd'⟩
  · rw [hframe]
    rfl
  · rw [hframe] at h
    exact h

theorem DownFrameOnly.port {l l' : Liu} (h : DownFrameOnly l l') : PortFrame l l' := by
  unfold DownFrameOnly at h
  unfold PortFrame
  rw [h]

theorem Liu.Moves.kickDown (l : Liu) : l.Moves l.kickDown := by
  refine .of_port l.kickDown_frame.port fun hno hp hq hd => ?_
  rw [l.kickDown_of_not (.inr (.inl (by rw [hp]; decide)))]
  exact ⟨hp, hq, hd⟩

theorem portMayRun_of_aligned {l : Liu} (h : l.link = .aligned) : portMayRun l.link = true := by rw [h]; rfl

/-- A frame is forwarded through an ALIGNED port alone. -/
theorem Liu.Moves.forward {l : Liu} (hp : l.port = .aligned) (f : DownFrame) : l.Moves (l.forward f) :=
  .of_port (l.forward_frame f).port fun _ hoff => absurd (hp.symm.trans hoff) (by decide)

theorem Liu.Moves.nextDown {l : Liu} (hp : l.port = .aligned) : l.Moves l.nextDown :=
  .of_port l.nextDown_frame.port fun _ hoff => absurd (hp.symm.trans hoff) (by decide)

/-- A port that is out of OFF moves as it will. -/
theorem Liu.Moves.of_running_port {l l' : Liu} (hframe : PortFrame l l') (hp : l.port ≠ .off) : l.Moves l' :=
  .of_port hframe fun _ hoff => absurd hoff hp

theorem Liu.Moves.of_aligned_link {l l' : Liu} (hframe : PortFrame l l') (hl : portMayRun l.link = true) : l.Moves l' :=
  .of_port hframe fun hno => absurd (hl.symm.trans hno) (by decide)

theorem Liu.portAbsent_frame (l : Liu) (now : Nat) : PortFrame l (l.portAbsent now) := rfl
theorem Liu.startProbe_frame (l : Liu) (now : Nat) : PortFrame l (l.startProbe now) := rfl

theorem Liu.portAligned_frame (l : Liu) (now : Nat) : PortFrame l (l.portAligned now) := by
  have h := Liu.kickDown_frame { l with
    port := .aligned, probeStart := none, probeCount := 0, probeAnswer := none, downLane := .idle, returnWatch := some now }
  unfold DownFrameOnly at h
  unfold PortFrame Liu.portAligned
  rw [h]

theorem Liu.Moves.watched (l : Liu) (now : Nat) : l.Moves { l with returnWatch := some now } :=
  .of_port rfl fun _ h1 h2 h3 => ⟨h1, h2, h3⟩

theorem Liu.releaseProbe_port_frame (l : Liu) (now : Nat) : PortFrame l (l.releaseProbe now) := l.releaseProbe_frame now

/-! #### The outstanding sweep list (R158) -/

/-- The list of outstanding entries may lose entries. -/
theorem Liu.Moves.outstanding {l : Liu} {es : List Outstanding} (h : es.Sublist l.outstanding) : l.Moves { l with outstanding := es } := by
  refine ⟨fun hl => ⟨?_, rfl⟩, Iff.rfl, id⟩
  obtain ⟨h1, h2, h3, h4, h5, h6, h7, h8, h9, h10, h11, h12⟩ := hl
  refine ⟨h1, h2, h3, h4, h5, h.length_le.trans h6, h7.sublist (h.map _), h8, fun hno => ?_, h10, h11, h12⟩
  obtain ⟨hoff, hout, hq, hd⟩ := h9 hno
  exact ⟨hoff, List.sublist_nil.mp (hout ▸ h), hq, hd⟩

theorem State.missingPended_moves (s : State) (es : List Outstanding) (l : Liu) : l.Moves (s.missingPended es l) := by
  induction es generalizing l with
  | nil => exact .refl l
  | cons e es ih => exact (Liu.Moves.pendReturn l _).trans (ih _)

theorem State.giveUp_moves (s : State) : s.liu.Moves s.giveUp.liu := by
  cases h : s.liu.outstanding with
  | nil =>
    have hsame : s.giveUp = s := by simp only [State.giveUp, h]
    rw [hsame]
    exact .refl _
  | cons e rest =>
    rw [State.giveUp_cons h, ← Liu.pendReturn_outstanding]
    exact (Liu.Moves.outstanding (by rw [h]; exact List.sublist_cons_self e rest)).trans (Liu.Moves.pendReturn _ _)

theorem State.giveUpMany_moves (n : Nat) (s : State) : s.liu.Moves (State.giveUpMany n s).liu := by
  induction n generalizing s with
  | zero => exact .refl _
  | succ n ih => exact s.giveUp_moves.trans (ih _)

theorem State.giveUpDue_moves (n : Nat) (s : State) : s.liu.Moves (State.giveUpDue n s).liu := by
  induction n generalizing s with
  | zero => exact .refl _
  | succ n ih =>
    unfold State.giveUpDue
    split
    · exact s.giveUp_moves.trans (ih _)
    · exact .refl _

theorem State.giveUpDue_frame (n : Nat) (s : State) : LinkFrame s (State.giveUpDue n s) := by
  induction n generalizing s with
  | zero => rfl
  | succ n ih =>
    unfold State.giveUpDue
    split
    · exact s.giveUp_frame.trans (ih _)
    · rfl

theorem State.giveUpThrough_moves (s : State) (n : Byte) : s.liu.Moves (s.giveUpThrough n).liu := by
  unfold State.giveUpThrough
  split
  · exact State.giveUpMany_moves _ s
  · exact .refl _

theorem State.makeRoom_moves (s : State) : s.liu.Moves s.makeRoom.liu := by
  unfold State.makeRoom
  split
  · exact .refl _
  · exact s.giveUp_moves

/-- What is left of the list when a new entry is appended holds one entry at most, and none of the new number. -/
theorem State.appendOutstanding_left {s : State} {n : Byte} {k : Nat} (hlen : s.liu.outstanding.length ≤ 2)
    (hnodup : (s.liu.outstanding.map (·.number)).Nodup)
    (hfresh : (∀ e ∈ s.liu.outstanding, e.number ≠ n) → s.liu.outstanding.length < 2 → k = 0)
    (hfull : (∀ e ∈ s.liu.outstanding, e.number ≠ n) → s.liu.outstanding.length = 2 → k = 1)
    (hplace : ∀ old e young, s.liu.outstanding = old ++ e :: young → e.number = n → (∀ x ∈ old, x.number ≠ n) → k = old.length + 1) :
    (s.liu.outstanding.drop k).length ≤ 1 ∧ ∀ e ∈ s.liu.outstanding.drop k, e.number ≠ n := by
  by_cases hno : ∀ e ∈ s.liu.outstanding, e.number ≠ n
  · refine ⟨?_, fun e he => hno e (List.mem_of_mem_drop he)⟩
    rw [List.length_drop]
    rcases Nat.lt_or_eq_of_le hlen with h | h
    · rw [hfresh hno h]
      omega
    · rw [hfull hno h]
      omega
  · push Not at hno
    obtain ⟨e, he, hen⟩ := hno
    obtain ⟨old, young, hout⟩ := List.append_of_mem he
    have hother : (∀ x ∈ old, x.number ≠ n) ∧ ∀ x ∈ young, x.number ≠ n := by
      rw [hout, List.map_append, List.map_cons, List.nodup_append] at hnodup
      obtain ⟨-, hcons, hdisjoint⟩ := hnodup
      rw [List.nodup_cons] at hcons
      refine ⟨fun x hx hxn => ?_, fun x hx hxn => ?_⟩
      · exact hdisjoint _ (List.mem_map_of_mem hx) _ List.mem_cons_self (hxn.trans hen.symm)
      · exact hcons.1 (List.mem_map.mpr ⟨x, hx, hxn.trans hen.symm⟩)
    have hk := hplace old e young hout hen hother.1
    have hdrop : s.liu.outstanding.drop k = young := by rw [hout, hk]; simp [List.drop_append]
    rw [hdrop]
    rw [hout, List.length_append, List.length_cons] at hlen
    exact ⟨by omega, hother.2⟩

theorem State.appendOutstanding_moves {s : State} (hp : s.liu.port = .aligned) (n : Byte) : s.liu.Moves (s.appendOutstanding n).liu := by
  have hmid := (s.giveUpThrough_moves n).trans (State.makeRoom_moves _)
  have hlast : (s.appendOutstanding n).liu = { (s.giveUpThrough n).makeRoom.liu with outstanding := (s.appendOutstanding n).liu.outstanding } := rfl
  refine ⟨fun h => ?_, by rw [hlast]; exact hmid.disabled, fun hl => hmid.lost (by rw [hlast] at hl; exact hl)⟩
  have hmidSound := hmid.sound h
  obtain ⟨h1, h2, h3, h4, h5, -, -, h8, -, h10, h11, h12⟩ := hmidSound.1
  obtain ⟨-, -, -, -, -, hlen, hnodup, -, hport, -, -, -⟩ := h
  obtain ⟨k, hk, happend, hfresh, hfull, hplace⟩ := s.appendOutstanding_eq n hlen
  obtain ⟨hleft, hnumber⟩ := State.appendOutstanding_left hlen hnodup hfresh hfull hplace
  have hout : (s.appendOutstanding n).liu.outstanding = s.liu.outstanding.drop k ++ [⟨n, s.tb.now + 5⟩] := by rw [happend]
  have hlink : (s.giveUpThrough n).makeRoom.liu.link = s.liu.link := by
    have hsame : (s.appendOutstanding n).liu.link = s.liu.link := by
      rw [happend, s.giveUpMany_take hk]
      have hup := s.missingPended_frame (s.liu.outstanding.take k) s.liu
      unfold UpFrame at hup
      rw [hup]
    rw [← hsame, hlast]
  refine ⟨?_, by rw [hlast]; exact hmidSound.2⟩
  rw [hlast]
  refine ⟨h1, h2, h3, h4, h5, ?_, ?_, h8, fun hno => ?_, h10, h11, h12⟩
  · rw [hout]
    simpa using hleft
  · rw [hout, List.map_append, List.nodup_append]
    refine ⟨hnodup.sublist ((List.drop_sublist _ _).map _), List.nodup_singleton _, fun a ha b hb hab => ?_⟩
    obtain ⟨x, hx, hxa⟩ := List.mem_map.mp ha
    exact hnumber x hx (hxa.trans (hab.trans (List.mem_singleton.mp hb)))
  · change portMayRun (s.giveUpThrough n).makeRoom.liu.link = false at hno
    rw [hlink] at hno
    exact absurd (hp.symm.trans (hport hno).1) (by decide)

/-! #### The link's states (R135 to R143) -/

/-- A link that carries no frames has no RESTART's reply on its way. -/
theorem restartReplies_of_quiet {l : Liu} (h : LinkSound l) (hc : l.link.carriesFrames = false) : restartReplies l = 0 := by
  obtain ⟨-, -, -, -, -, -, -, hquiet, -⟩ := h
  obtain ⟨-, hq, hlane⟩ := hquiet hc
  rw [restartReplies_eq, hq]
  cases hu : l.upLane <;> simp_all [laneBetweenFrames, UpLane.restarts]

theorem restartReplies_clearUp (l : Liu) : restartReplies l.clearUp = 0 := rfl

/-- What a sound LIU says of its link where it is enabled and not in FAULT. -/
theorem linkSound_enabled {l : Liu} (h : LinkSound l) (hd : l.link ≠ .disabled) (hf : l.link ≠ .fault) :
    l.errorCount < 256 ∧ l.lostLatch = false ∧ l.silenceStart ≠ none := by
  obtain ⟨h1, h2, h3, -, -, -, -, -, -, -, h11, -⟩ := h
  exact ⟨lt_of_le_of_ne h1 fun he => hf (h2 he), Bool.eq_false_iff.mpr fun he => hf (h3 he), fun he => hd (h11 he)⟩

theorem Liu.not_lost_of_link {l : Liu} {k : LinkState} (h : l.link = k) (hk : k ≠ .lost ∧ k ≠ .fault) : ¬ l.lost :=
  fun hl => hl.elim (fun hl => hk.1 (h.symm.trans hl)) fun hl => hk.2 (h.symm.trans hl.1)

theorem Liu.disabled_iff {l l' : Liu} {k k' : LinkState} (h : l.link = k) (h' : l'.link = k') (hk : k ≠ .disabled ∧ k' ≠ .disabled) :
    l'.link = .disabled ↔ l.link = .disabled := by
  rw [h, h']
  exact iff_of_false hk.2 hk.1

theorem Liu.Moves.interruptTraining {l : Liu} (hl : l.link = .training) : l.Moves l.interruptTraining := by
  refine ⟨fun h => ⟨?_, ?_⟩, ?_, fun h => ?_⟩
  · obtain ⟨herr, hlatch, hsilence⟩ := linkSound_enabled h (by rw [hl]; decide) (by rw [hl]; decide)
    refine ⟨herr.le, fun he => absurd he herr.ne, fun he => absurd (hlatch.symm.trans he) (by decide), Nat.zero_le _, Nat.zero_le _, ?_, ?_,
      fun _ => ⟨rfl, rfl, rfl⟩, fun _ => ⟨rfl, ?_, rfl, rfl⟩, fun hc => Bool.noConfusion hc, fun he => absurd he hsilence, Nat.zero_le _⟩
    all_goals obtain ⟨-, -, -, -, -, h6, h7, -, h9, -⟩ := h
    · exact h6
    · exact h7
    · exact (h9 (by rw [hl]; rfl)).2.1
  · rw [restartReplies_of_quiet h (by rw [hl]; rfl)]
    rfl
  · exact Liu.disabled_iff hl (k' := .listen) rfl (by decide)
  · exact absurd h (Liu.not_lost_of_link (k := .listen) rfl (by decide))

/-- The error count moves within its bound below 256. -/
theorem Liu.Moves.errorCount (l : Liu) {n : Nat} (hn : n < 256) : l.Moves { l with errorCount := n } := by
  refine ⟨fun h => ⟨?_, rfl⟩, Iff.rfl, id⟩
  obtain ⟨h1, h2, h3, h4, h5, h6, h7, h8, h9, h10, h11, h12⟩ := h
  exact ⟨hn.le, fun he => absurd he hn.ne, h3, h4, h5, h6, h7, h8, h9, h10, h11, h12⟩

/-- A frame taken in ALIGNED or SILENT, before the count moves (R137). -/
theorem Liu.Moves.frameTaken {l : Liu} (hl : l.link = .aligned ∨ l.link = .silent) (now : Nat) :
    l.Moves { l with link := .aligned, silenceStart := some now, frameTaken := true } := by
  have hcarries : l.link.carriesFrames = true := (LinkState.carriesFrames_iff _).mpr hl
  have hne : l.link ≠ .disabled ∧ l.link ≠ .fault := by rcases hl with hl | hl <;> rw [hl] <;> decide
  refine ⟨fun h => ⟨?_, rfl⟩, Liu.disabled_iff rfl (k' := .aligned) rfl ⟨hne.1, by decide⟩,
    fun h => absurd h (Liu.not_lost_of_link (k := .aligned) rfl (by decide))⟩
  obtain ⟨herr, hlatch, -⟩ := linkSound_enabled h hne.1 hne.2
  obtain ⟨h1, -, -, h4, h5, h6, h7, -, -, h10, -, h12⟩ := h
  exact ⟨h1, fun he => absurd he herr.ne, fun he => absurd (hlatch.symm.trans he) (by decide), h4, h5, h6, h7, fun hno => Bool.noConfusion hno,
    fun hno => Bool.noConfusion hno, fun _ => h10 hcarries, fun he => absurd he (by simp), h12⟩

theorem Liu.Moves.releaseProbe {l : Liu} (hl : l.link = .aligned) (now : Nat) : l.Moves (l.releaseProbe now) :=
  .of_aligned_link (l.releaseProbe_frame now) (by rw [hl]; rfl)

/-- The error count worked down by a valid frame (R141). -/
theorem Liu.Moves.countDown (l : Liu) (hl : l.link = .aligned) : l.Moves { l with errorCount := l.errorCount - 1 } := by
  refine ⟨fun h => ⟨?_, rfl⟩, Iff.rfl, id⟩
  obtain ⟨herr, -, -⟩ := linkSound_enabled h (by rw [hl]; decide) (by rw [hl]; decide)
  exact ((Liu.Moves.errorCount l (n := l.errorCount - 1) (by omega)).sound h).1

theorem State.acceptFrame_moves (s : State) : s.liu.Moves s.acceptFrame.liu := by
  rcases h : s.liu.link with _ | _ | _ | _ | _ | _ | _
  case training =>
    simp only [State.acceptFrame, h]
    exact .interruptTraining h
  case aligned =>
    rw [State.acceptFrame_aligned s h]
    have htaken := Liu.Moves.frameTaken (.inl h) s.tb.now
    refine (htaken.trans (.countDown _ rfl)).trans (.of_eq ?_)
    rw [← h]
  case silent =>
    rw [State.acceptFrame_silent h]
    have htaken := Liu.Moves.frameTaken (.inr h) s.tb.now
    have hprobe := htaken.trans (.releaseProbe rfl s.tb.now)
    have hlink : (Liu.releaseProbe { s.liu with link := .aligned, silenceStart := some s.tb.now, frameTaken := true } s.tb.now).link = .aligned := by
      rw [Liu.releaseProbe_frame]
    have hcount : (Liu.releaseProbe { s.liu with link := .aligned, silenceStart := some s.tb.now, frameTaken := true } s.tb.now).errorCount = s.liu.errorCount := by
      rw [Liu.releaseProbe_frame]
    refine (hprobe.trans (.countDown _ hlink)).trans (.of_eq ?_)
    rw [hcount]
  all_goals
    simp only [State.acceptFrame, h]
    exact .refl _

theorem Liu.Moves.goSilent {l : Liu} (hl : l.link = .aligned) : l.Moves { l with link := .silent } := by
  refine ⟨fun h => ⟨?_, rfl⟩, Liu.disabled_iff hl (k' := .silent) rfl (by decide), fun h => absurd h (Liu.not_lost_of_link (k := .silent) rfl (by decide))⟩
  obtain ⟨herr, hlatch, hsilence⟩ := linkSound_enabled h (by rw [hl]; decide) (by rw [hl]; decide)
  obtain ⟨h1, -, -, h4, h5, h6, h7, -, -, h10, -, h12⟩ := h
  exact ⟨h1, fun he => absurd he herr.ne, fun he => absurd (hlatch.symm.trans he) (by decide), h4, h5, h6, h7, fun hno => Bool.noConfusion hno,
    fun hno => Bool.noConfusion hno, fun _ => h10 (by rw [hl]; rfl), fun he => absurd he hsilence, h12⟩

/-- A further training word of a hop up to 3: the count stays below 8, or the link is ALIGNED (R135, R136). -/
theorem Liu.Moves.trainingWord {l : Liu} (hl : l.link = .training) {hop : BitVec 4} (hhop : hop.toNat < 4) (kind : TrainKind) (count now : Nat) :
    l.Moves (if 8 ≤ count then Liu.enterAligned (Liu.answer { l with alternation := count, trainWord := some (kind, hop) } kind hop) hop now
      else Liu.answer { l with alternation := count, trainWord := some (kind, hop) } kind hop) := by
  have hquiet (h : LinkSound l) := restartReplies_of_quiet h (by rw [hl]; rfl)
  split
  · refine ⟨fun h => ?_, Liu.disabled_iff hl (k' := .aligned) rfl (by decide), fun h => absurd h (Liu.not_lost_of_link (k := .aligned) rfl (by decide))⟩
    obtain ⟨herr, hlatch, -⟩ := linkSound_enabled h (by rw [hl]; decide) (by rw [hl]; decide)
    have hzero := hquiet h
    obtain ⟨h1, -, -, h4, h5, h6, h7, h8, -, -, -, -⟩ := h
    obtain ⟨-, hq, -⟩ := h8 (by rw [hl]; rfl)
    refine ⟨⟨h1, fun he => absurd he herr.ne, fun he => absurd (hlatch.symm.trans he) (by decide), h4, h5, h6, h7, fun hno => Bool.noConfusion hno,
      fun hno => Bool.noConfusion hno, fun _ => ?_, fun he => absurd he (Option.some_ne_none _), Nat.zero_le _⟩, ?_⟩
    · change (if h : hop.toNat < 4 then some (⟨hop.toNat, h⟩ : Fin 4) else l.position).isSome = true
      rw [dif_pos hhop]
      rfl
    · rw [hzero, restartReplies_eq]
      change (l.replyQueue.filter (·.restart)).length + 0 = 0
      rw [hq]
      rfl
  · next hcount =>
    refine ⟨fun h => ?_, Iff.rfl, id⟩
    have hzero := hquiet h
    obtain ⟨h1, h2, h3, h4, h5, h6, h7, h8, h9, h10, h11, -⟩ := h
    obtain ⟨hp, hq, -⟩ := h8 (by rw [hl]; rfl)
    refine ⟨⟨h1, h2, h3, h4, h5, h6, h7, fun _ => ⟨hp, hq, rfl⟩, h9, h10, h11, Nat.le_of_lt_succ (not_le.mp hcount)⟩, ?_⟩
    rw [hzero, restartReplies_eq]
    change (l.replyQueue.filter (·.restart)).length + 0 = 0
    rw [hq]
    rfl

/-! #### The emptied return lane (R138, R139, R143, R178) -/

theorem FaultLiu_empties {l : Liu} (hd : l.link ≠ .disabled) {n : Nat} (hn : n ≤ 256) (latch : Bool) : l.Empties (FaultLiu l n latch) := by
  refine ⟨fun h => ?_, fun _ _ => rfl, iff_of_false (fun h => LinkState.noConfusion h) hd⟩
  obtain ⟨-, -, -, -, -, -, -, -, -, -, h11, -⟩ := h
  exact ⟨hn, fun _ => rfl, fun _ => rfl, Nat.zero_le _, Nat.zero_le _, Nat.zero_le _, List.nodup_nil, fun _ => ⟨rfl, rfl, rfl⟩, fun _ => ⟨rfl, rfl, rfl, rfl⟩,
    fun hc => Bool.noConfusion hc, fun he => absurd (h11 he) hd, Nat.zero_le _⟩

/-- Entry to TRAINING with the answer of its word (R135, R143). -/
theorem Liu.Empties.training {l : Liu} (hd : l.link ≠ .disabled) (kind : TrainKind) (hop : BitVec 4) :
    l.Empties ((l.enterTraining kind hop).answer kind hop) := by
  refine ⟨fun h => ?_, fun _ _ => rfl, iff_of_false (fun h => LinkState.noConfusion h) hd⟩
  obtain ⟨-, -, -, -, -, -, -, -, -, -, h11, -⟩ := h
  exact ⟨Nat.zero_le _, fun he => absurd he (by change ¬ 0 = 256; decide), fun he => Bool.noConfusion he, Nat.zero_le _, Nat.zero_le _, Nat.zero_le _, List.nodup_nil,
    fun _ => ⟨rfl, rfl, rfl⟩, fun _ => ⟨rfl, rfl, rfl, rfl⟩, fun hc => Bool.noConfusion hc, fun he => absurd (h11 he) hd, Nat.zero_le _⟩

/-- SILENT to LOST (R138). -/
theorem Liu.Empties.lost {l : Liu} (hl : l.link = .silent) : l.Empties { l.clearUp with link := .lost } := by
  refine ⟨fun h => ?_, fun _ _ => rfl, iff_of_false (fun h => LinkState.noConfusion h) (by rw [hl]; decide)⟩
  obtain ⟨herr, hlatch, hsilence⟩ := linkSound_enabled h (by rw [hl]; decide) (by rw [hl]; decide)
  obtain ⟨h1, -, -, -, -, h6, h7, -, -, -, -, h12⟩ := h
  exact ⟨h1, fun he => absurd he herr.ne, fun he => absurd (hlatch.symm.trans he) (by decide), Nat.zero_le _, Nat.zero_le _, h6, h7, fun _ => ⟨rfl, rfl, rfl⟩,
    fun hno => Bool.noConfusion hno, fun hc => Bool.noConfusion hc, fun he => absurd he hsilence, h12⟩

/-- The end of a RESTART's reply on the return lane (R178). -/
theorem Liu.Empties.nextUp {l : Liu} (hc : l.link.carriesFrames = true) {q : ReplyFrame} (hu : l.upLane = .reply q) (hr : q.restart = true) :
    l.Empties l.nextUp := by
  have hframe := l.nextUp_frame
  have hlink : l.nextUp.link = l.link := by
    unfold UpFrame at hframe
    rw [hframe]
  refine ⟨linkSound_of_up hframe hc l.nextUp_lengths.1.trans l.nextUp_lengths.2.trans, fun _ hle => ?_, by rw [hlink]⟩
  rw [restartReplies_eq, hu] at hle
  simp only [UpLane.restarts, hr, if_true] at hle
  have hzero : (l.replyQueue.filter (·.restart)).length = 0 := by omega
  rw [restartReplies_eq]
  rcases l.nextUp_cases with ⟨r, rs, hp, hn⟩ | ⟨q', qs, hp, hq, hn⟩ | ⟨hp, hq, hn⟩
  · rw [hn]
    exact hzero
  · rw [hq] at hzero
    rw [hn]
    cases hr' : q'.restart
    · simpa [UpLane.restarts, hr'] using hzero
    · simp [hr'] at hzero
  · rw [hn]
    exact hzero

end Sys2Proof.Machine

/-! ### The operations as runs of changes -/

namespace Sys2Proof.Machine

open Safety

variable {s t u : State} {g k : Bool}

/-! #### Changes that stand at any place of a run -/

theorem Run.granted (h : Run s g k t) : Run s true k t := h.weaken (fun _ => rfl) id

theorem Run.stirred (h : Run s g k t) : Run s g true t := h.weaken id fun _ => rfl

theorem Run.link (h : Run s g k t) {l : Liu} (hl : t.liu.Moves l) : Run s g k { t with liu := l } := h.late (.link l hl)

theorem Run.free (h : Run s g k t) (inputs : Vector BayInput 24) (therm : Vector Int 4) (smap : Vector Applied 24) (count : Nat) (a : BitVec 15) :
    Run s g k { t with inputs := inputs, therm := therm, smap := smap, freeCount := count, mru := { t.mru with attention := a } } :=
  h.late (.free inputs therm smap count a)

theorem Run.attention (h : Run s g k t) (a : BitVec 15) : Run s g k { t with mru := { t.mru with attention := a } } :=
  h.free t.inputs t.therm t.smap t.freeCount a

theorem Run.raise (h : Run s g k t) (a : AttentionKind) : Run s g k (t.raise a) := h.attention _

theorem Run.raiseIf (h : Run s g k t) (c : Bool) (a : AttentionKind) : Run s g k (t.raiseIf c a) := by
  cases c
  · exact h
  · exact h.raise a

theorem Run.setInput (h : Run s g k t) (b : BayId) (i : BayInput) : Run s g k (t.setInput b i) :=
  h.free (t.inputs.set b i) t.therm t.smap t.freeCount t.mru.attention

theorem Run.setApplied (h : Run s g k t) (b : BayId) (a : Applied) : Run s g k (t.setApplied b a) :=
  h.free t.inputs t.therm (t.smap.set b a) t.freeCount t.mru.attention

/-- A move of the LIU that may raise an attention kind. -/
theorem Run.linkFrame (h : Run s g k t) (hf : LinkFrame t u) (hm : t.liu.Moves u.liu) : Run s g k u := by
  unfold LinkFrame at hf
  rw [hf]
  exact (h.attention u.mru.attention).link hm

theorem Run.reply (h : Run s g k t) (tag : Byte) (status : Status) (payload : List Byte) : Run s g k (t.reply tag status payload) :=
  h.link (.pushReply _ rfl)

theorem Run.originate (h : Run s g k t) (n : Byte) : Run s g k (t.originate n) := h.link (.pendReturn _ _)

theorem Run.resumeDown (h : Run s g k t) : Run s g k t.resumeDown := h.link (.kickDown _)

theorem Run.acceptFrame (h : Run s g k t) : Run s g k t.acceptFrame := h.linkFrame t.acceptFrame_frame t.acceptFrame_moves

/-! #### Considerations and the end of a RESTART -/

theorem Run.consider (h : Run s g k t) : Run s true k t.consider :=
  t.consider_induction (P := Run s true k) h.granted fun _ b hu hr hc => hu.grant b hr hc

theorem Run.considerIf (h : Run s g k t) (c : Bool) : Run s true k (t.considerIf c) :=
  t.considerIf_induction (P := Run s true k) c h.granted fun _ b hu hr hc => hu.grant b hr hc

theorem Grants.consider (h : Grants s t) : Grants s t.consider :=
  t.consider_induction (P := Grants s) h fun _ b hu hr hc => hu.grant b hr hc

theorem Grants.considerIf (h : Grants s t) (c : Bool) : Grants s (t.considerIf c) :=
  t.considerIf_induction (P := Grants s) c h fun _ b hu hr hc => hu.grant b hr hc

/-- The end of a RESTART that awaits no reply yet (R178). -/
theorem Run.finishRestart (h : Run s g k t) (tag : Byte) (hs : isSending t.mru.state = false) (hp : t.phase = .running ∨ t.mru.state ≠ .idle) :
    Run s g k (t.finishRestart tag) := by
  rcases t.finishRestart_cases tag with ⟨hc, hn, ht⟩ | ⟨-, ht⟩ <;> rw [ht]
  · exact h.late (.sending tag _ rfl hc hn hs)
  · exact h.late (.reset false (hp.imp_right .inr))

theorem Run.reportQuiesce (h : Run s g k t) : Run s g false t.reportQuiesce := by
  refine .report (k := k) ?_
  rcases t.reportQuiesce_cases with ⟨tag, taken, hm, -, ht⟩ | ht <;> rw [ht]
  · exact h.finishRestart tag (by rw [hm]; rfl) (.inr (by rw [hm]; exact fun he => MruState.noConfusion he))
  · exact h

theorem Run.afterBay (h : Run s g k t) (c : Bool) : Run s true false (t.afterBay c) := (h.considerIf c).reportQuiesce

/-! #### Bay records -/

/-- A record whose state, charges and soundness stand. -/
theorem BayRecord.SameStanding.of_state {r r' : BayRecord} (hs : r'.state = r.state) (h12 : r'.charge12 = r.charge12) (h5 : r'.charge5 = r.charge5)
    (h : BaySound r → BaySound r') : r.SameStanding r' :=
  ⟨by rw [hs], by rw [hs], by rw [hs], by rw [hs], h12, h5, h⟩

/-- The state of a bay that holds no power and is not in the queue. -/
abbrev BayState.idle (x : BayState) : Prop := x.live = false ∧ x ≠ .queued

/-- A bay that holds no power and is not in the queue takes another such state. -/
theorem BayRecord.SameStanding.of_idle {r r' : BayRecord} (hr : r.state.idle) (hr' : r'.state.idle) (h12 : r'.charge12 = r.charge12)
    (h5 : r'.charge5 = r.charge5) (h : BaySound r → BaySound r') : r.SameStanding r' :=
  ⟨hr'.1.trans hr.1.symm, iff_of_false (BayState.not_live_of hr'.1).1 (BayState.not_live_of hr.1).1,
    iff_of_false (BayState.not_live_of hr'.1).2 (BayState.not_live_of hr.1).2, iff_of_false hr'.2 hr.2, h12, h5, h⟩

theorem baySound_parked {r : BayRecord} (hr : r.state.live = false) (h : BaySound r) :
    BaySound { r with state := .parked, drainDeadline := none, backoffDeadline := none } := by
  obtain ⟨hcharge, -, -, hramp, hpg, -, -, -, h12, h5, hst, hretry⟩ := h
  have hne := (BayState.not_live_of hr).1
  refine ⟨fun _ => hcharge hr, fun he => BayState.noConfusion he, fun he => BayState.noConfusion he,
    iff_of_false (fun he => hne (hramp.mp he)) fun he => BayState.noConfusion he, fun he => absurd (hpg he) hne,
    iff_of_false (fun he => Bool.noConfusion he) fun he => BayState.noConfusion he,
    iff_of_false (fun he => Bool.noConfusion he) fun he => BayState.noConfusion he, fun _ => .inr rfl, h12, h5, hst, hretry⟩

/-- A record without deadlines that was never powered since its charges were cleared. -/
theorem baySound_of_quiet {r : BayRecord} (hr : r.state.live = false) (hm : r.state ≠ .removing) (hf : r.state ≠ .powerFault)
    (hcharge : r.charge12 = 0 ∧ r.charge5 = 0 ∧ r.steady12 = 0) (hramp : r.rampDeadline = none) (hpg : r.pgDeadline = none)
    (hdrain : r.drainDeadline = none) (hback : r.backoffDeadline = none) (hshed : r.shedParked = true → r.state = .parked)
    (hretry : r.retryCount ≤ 7) : BaySound r := by
  obtain ⟨hr1, hr2⟩ := BayState.not_live_of hr
  obtain ⟨h12, h5, hst⟩ := hcharge
  refine ⟨fun _ => ⟨h12, h5, hst⟩, fun he => absurd he hr2, fun he => absurd he hr1, ?_, ?_, ?_, ?_, fun he => .inr (hshed he), ?_, ?_, ?_, hretry⟩
  · rw [hramp]
    exact iff_of_false (fun he => Bool.noConfusion he) hr1
  · rw [hpg]
    exact fun he => Bool.noConfusion he
  · rw [hdrain]
    exact iff_of_false (fun he => Bool.noConfusion he) hm
  · rw [hback]
    exact iff_of_false (fun he => Bool.noConfusion he) hf
  · omega
  · omega
  · omega

/-- What a sound record of a bay that is idle, neither draining nor backing off, holds. -/
theorem quiet_of_baySound {r : BayRecord} (h : BaySound r) (hr : r.state.live = false) (hm : r.state ≠ .removing) (hf : r.state ≠ .powerFault) :
    (r.charge12 = 0 ∧ r.charge5 = 0 ∧ r.steady12 = 0) ∧ r.rampDeadline = none ∧ r.pgDeadline = none ∧ r.drainDeadline = none ∧
      r.backoffDeadline = none ∧ (r.shedParked = true → r.state = .parked) ∧ r.retryCount ≤ 7 := by
  obtain ⟨hcharge, -, -, hramp, hpg, hdrain, hback, hshed, -, -, -, hretry⟩ := h
  have hr1 := (BayState.not_live_of hr).1
  exact ⟨hcharge hr, Option.not_isSome_iff_eq_none.mp fun he => hr1 (hramp.mp he), Option.not_isSome_iff_eq_none.mp fun he => hr1 (hpg he),
    Option.not_isSome_iff_eq_none.mp fun he => hm (hdrain.mp he), Option.not_isSome_iff_eq_none.mp fun he => hf (hback.mp he),
    fun he => (hshed he).resolve_left hm, hretry⟩

/-- A bay that neither drains nor backs off takes another such state, and keeps what a sound record of it holds. -/
theorem baySound_moved {r r' : BayRecord} (hr : r.state.live = false ∧ r.state ≠ .removing ∧ r.state ≠ .powerFault)
    (hr' : r'.state.live = false ∧ r'.state ≠ .removing ∧ r'.state ≠ .powerFault)
    (hframe : r' = { r with state := r'.state, retryCount := r'.retryCount }) (hshed : r.shedParked = true → r.state = .parked → r'.state = .parked)
    (hretry : r.retryCount ≤ 7 → r'.retryCount ≤ 7) (h : BaySound r) : BaySound r' := by
  obtain ⟨hcharge, hramp, hpg, hdrain, hback, hflag, hcount⟩ := quiet_of_baySound h hr.1 hr.2.1 hr.2.2
  rw [hframe]
  exact baySound_of_quiet hr'.1 hr'.2.1 hr'.2.2 hcharge hramp hpg hdrain hback (fun he => hshed he (hflag he)) (hretry hcount)

/-- A bay that has left its power, with neither drain nor backoff. -/
theorem baySound_unpowered {r : BayRecord} (h : BaySound r) (hr : r.state.live = true) :
    r.drainDeadline = none ∧ r.backoffDeadline = none ∧ r.shedParked = false ∧ r.retryCount ≤ 7 := by
  obtain ⟨-, -, -, -, -, hdrain, hback, hshed, -, -, -, hretry⟩ := h
  refine ⟨Option.not_isSome_iff_eq_none.mp fun he => ?_, Option.not_isSome_iff_eq_none.mp fun he => ?_, Bool.eq_false_iff.mpr fun he => ?_, hretry⟩
  · rw [hdrain.mp he] at hr
    exact Bool.noConfusion hr
  · rw [hback.mp he] at hr
    exact Bool.noConfusion hr
  · rcases hshed he with he | he <;> rw [he] at hr <;> exact Bool.noConfusion hr

/-- The record of a bay that drains after its power (R17). -/
theorem baySound_draining {r : BayRecord} (hr : r.state.live = true) (flag : Bool) (d : Nat) (h : BaySound r) :
    BaySound { r.unpowered with state := .removing, shedParked := flag, drainDeadline := some d } := by
  obtain ⟨-, hback, -, hretry⟩ := baySound_unpowered h hr
  refine ⟨fun _ => ⟨rfl, rfl, rfl⟩, fun he => BayState.noConfusion he, fun he => BayState.noConfusion he,
    iff_of_false (fun he => Bool.noConfusion he) fun he => BayState.noConfusion he, fun he => Bool.noConfusion he, iff_of_true rfl rfl, ?_,
    fun _ => .inl rfl, Nat.zero_le _, Nat.zero_le _, Nat.zero_le _, hretry⟩
  change r.backoffDeadline.isSome = true ↔ _
  rw [hback]
  exact iff_of_false (fun he => Bool.noConfusion he) fun he => BayState.noConfusion he

/-- The record of a bay after a fault (R20, R22). -/
theorem baySound_faulted {r : BayRecord} (hr : r.state.live = true) (l : Limits) (hl : l.retryLimit ≤ 7) (now : Nat) (h : BaySound r) :
    BaySound (r.faulted l now) := by
  obtain ⟨hdrain, hback, hshed, hretry⟩ := baySound_unpowered h hr
  unfold BayRecord.faulted
  split
  · next hlt =>
    refine ⟨fun _ => ⟨rfl, rfl, rfl⟩, fun he => BayState.noConfusion he, fun he => BayState.noConfusion he,
      iff_of_false (fun he => Bool.noConfusion he) fun he => BayState.noConfusion he, fun he => Bool.noConfusion he, ?_, iff_of_true rfl rfl,
      fun he => absurd (hshed.symm.trans he) (by decide), Nat.zero_le _, Nat.zero_le _, Nat.zero_le _, (Nat.succ_le_of_lt hlt).trans hl⟩
    change r.drainDeadline.isSome = true ↔ _
    rw [hdrain]
    exact iff_of_false (fun he => Bool.noConfusion he) fun he => BayState.noConfusion he
  · exact baySound_of_quiet rfl (fun he => BayState.noConfusion he) (fun he => BayState.noConfusion he) ⟨rfl, rfl, rfl⟩ rfl rfl hdrain hback
      (fun he => absurd (hshed.symm.trans he) (by decide)) hretry

/-- The cleared record of an empty bay (R9). -/
theorem baySound_removed (r : BayRecord) (c : ClassId) : BaySound (r.removed c) :=
  baySound_of_quiet rfl (fun he => BayState.noConfusion he) (fun he => BayState.noConfusion he) ⟨rfl, rfl, rfl⟩ rfl rfl rfl rfl
    (fun he => Bool.noConfusion he) (Nat.zero_le _)

/-! #### Entries to the other states -/

theorem Run.enterQueued (h : Run s false k t) {b : BayId} (hb : t.bays[b].state.idle) : Run s false true (t.enterQueued b) :=
  h.stir (.join b hb.1 hb.2)

theorem Run.foldl_enterQueued {bs : List BayId} (hn : bs.Nodup) (h : Run s false k t)
    (hb : ∀ b ∈ bs, t.bays[b].state.idle ∧ t.bays[b].state ≠ .removing) : Run s false k (bs.foldl State.enterQueued t) := by
  induction bs generalizing t with
  | nil => exact h
  | cons b bs ih =>
    obtain ⟨hnot, hn⟩ := List.nodup_cons.mp hn
    obtain ⟨hidle, hm⟩ := hb b List.mem_cons_self
    refine ih hn (h.calm (.join b hidle.1 hidle.2 hm)) fun x hx => ?_
    have hother : (t.enterQueued b).bays[x] = t.bays[x] := get_set_of_ne _ _ fun he => hnot (he ▸ hx)
    rw [hother]
    exact hb x (List.mem_cons_of_mem _ hx)

theorem Run.enterQueuedAll (h : Run s false k t) (p : BayId → Bool) (hp : ∀ b, p b = true → t.bays[b].state.idle ∧ t.bays[b].state ≠ .removing) :
    Run s false k (t.enterQueuedAll p) :=
  h.foldl_enterQueued ((List.nodup_finRange 24).filter _) fun _ hb => hp _ (List.mem_filter.mp hb).2

theorem Run.record (h : Run s false k t) {b : BayId} {r : BayRecord} (hr : (t.bays[b]).SameStanding r) : Run s false true (t.setBay b r) :=
  h.stir (.record b r hr)

theorem Run.enterParked (h : Run s false k t) {b : BayId} (hb : t.bays[b].state.idle) : Run s false true (t.enterParked b) := by
  rw [t.enterParked_eq]
  exact (h.record (.of_idle (r' := { t.bays[b] with state := .parked, drainDeadline := none, backoffDeadline := none }) hb
    ⟨rfl, fun he => BayState.noConfusion he⟩ rfl rfl (baySound_parked hb.1))).raise .bayState

theorem Run.drained (h : Run s false k t) {b : BayId} (hb : t.bays[b].state = .removing) : Run s false true (t.drained b) := by
  have hidle : t.bays[b].state.idle := by rw [hb]; exact ⟨rfl, fun he => BayState.noConfusion he⟩
  rcases t.drained_cases b with ⟨-, -, ht⟩ | ⟨-, ht⟩ <;> rw [ht]
  · exact h.enterQueued hidle
  · exact h.enterParked hidle

theorem Run.enterRemoving (h : Run s false k t) {b : BayId} (hb : t.bays[b].state.live = true) (flag : Bool) :
    Run s false true (t.enterRemoving b flag) := by
  have hdrain : Run s false true (Draining t b flag) := by
    rw [t.draining_eq]
    exact h.stir (.off b _ hb rfl (fun he => BayState.noConfusion he) fun hs _ => baySound_draining hb flag _ hs)
  rw [State.enterRemoving_of_live hb]
  split
  · exact hdrain.drained (by rw [draining_bay])
  · exact hdrain

theorem Tables.wf_iff (t : Tables) :
    t.wf = true ↔ bayMapUnique t.bayMap = true ∧ (∀ c : ClassId, t.classes[c].inRange = true ∧ t.classes[c].constraint = true) ∧
      t.limits.inRange = true ∧ (∀ p : PatternId, t.patterns[p].inRange = true) ∧
      (∀ c : CurveId, t.curves[c].inRange = true ∧ t.curves[c].constraint = true) ∧ (∀ k : SensorId, t.sensors[k].inRange = true) ∧
      (∀ z : ZoneId, t.zones[z].inRange = true) ∧ (∀ f : FanId, t.fans[f].inRange = true ∧ t.fans[f].constraint = true) ∧
      t.link.inRange = true := by
  simp only [Tables.wf, Bool.and_eq_true, List.all_eq_true, List.mem_finRange, forall_true_left, and_assoc]

theorem Tables.limits_of_wf {t : Tables} (h : t.wf = true) : t.limits.inRange = true := (t.wf_iff.mp h).2.2.1

theorem retryLimit_of_wf {t : Tables} (h : t.wf = true) : t.limits.retryLimit ≤ 7 := by
  have hl := t.limits_of_wf h
  rw [Limits.inRange, decide_eq_true_eq] at hl
  omega

theorem BayRecord.faulted_idle (r : BayRecord) (l : Limits) (now : Nat) : (r.faulted l now).state.idle := by
  unfold BayRecord.faulted
  split <;> exact ⟨rfl, fun he => BayState.noConfusion he⟩

theorem Run.enterPowerFault (h : Run s false k t) {b : BayId} (hb : t.bays[b].state.live = true) : Run s false true (t.enterPowerFault b) := by
  have hidle := (t.bays[b]).faulted_idle t.tables.limits t.now
  rw [State.enterPowerFault_of_live hb]
  exact (h.stir (.off b _ hb hidle.1 hidle.2 fun hs hwf => baySound_faulted hb _ (retryLimit_of_wf hwf) _ hs)).attention _

theorem Run.enterEmpty (h : Run s false k t) (b : BayId) : Run s false true (t.enterEmpty b) := by
  have hsound := baySound_removed t.bays[b] (t.setting b).cls
  rw [t.enterEmpty_eq]
  cases hb : t.bays[b].state.live with
  | true =>
    have hoff := h.stir (.off b (t.bays[b].removed (t.setting b).cls) hb rfl (fun he => BayState.noConfusion he) fun _ _ => hsound)
    have hleave := hoff.stir (.leave b (t.bays[b].removed (t.setting b).cls) (by rw [t.powerOff_bay]; rfl) rfl (fun he => BayState.noConfusion he)
      fun _ => hsound)
    have hfull := hleave.attention (attentionRaise (attentionRaise t.mru.attention .bayState) .surpriseRemoval)
    simp only [State.powerOff, set_set] at hfull
    exact hfull
  | false =>
    have hd : t.releasedDrives b = t.drives := if_neg fun hp => by rw [hp] at hb; cases hb
    rw [hd]
    exact (h.stir (.leave b (t.bays[b].removed (t.setting b).cls) hb rfl (fun he => BayState.noConfusion he) fun _ => hsound)).raise .bayState

/-! #### Sheds and the end of a ramp -/

theorem State.drained_shed (s : State) (b : BayId) : (s.drained b).psq.shed = s.psq.shed := by
  rcases s.drained_cases b with ⟨-, -, h⟩ | ⟨-, h⟩ <;> rw [h] <;> rfl

theorem State.enterRemoving_shed (s : State) (b : BayId) (flag : Bool) : (s.enterRemoving b flag).psq.shed = s.psq.shed := by
  have hexit : (s.exitPower b).psq.shed = s.psq.shed := by
    unfold State.exitPower
    dsimp only
    split <;> rfl
  unfold State.enterRemoving
  dsimp only
  split
  · rw [State.drained_shed]
    exact hexit
  · exact hexit

theorem Run.shedBay (h : Run s false k t) {z : ZoneId} {b : BayId} (hb : t.bays[b].state.live = true) (hz : t.psq.shed[z] ≠ .idle) :
    Run s false true (t.shedBay z b) := by
  have hoff := (h.raise .zoneShed).enterRemoving (b := b) hb true
  exact hoff.calm (.shed z (.interval t.now) (by rw [State.enterRemoving_shed]; exact hz) fun he => ShedRecord.noConfusion he)

theorem Run.shedDue (h : Run s false k t) {z : ZoneId} (hz : t.psq.shed[z] ≠ .idle) : Run s false true (t.shedDue z) := by
  rcases t.shedDue_cases z with ⟨b, hc, ht⟩ | ⟨-, ht⟩ <;> rw [ht]
  · exact h.shedBay (State.live_of_shedCandidate hc) hz
  · exact (h.calm (.shed z .owed hz fun he => ShedRecord.noConfusion he)).stirred

theorem Run.shedOwed (h : Run s false k t) (z : ZoneId) : Run s false true (t.shedOwed z) := by
  rcases t.shedOwed_cases z with ⟨b, ho, hc, ht⟩ | ht <;> rw [ht]
  · exact h.shedBay (State.live_of_shedCandidate hc) (by rw [ho]; exact fun he => ShedRecord.noConfusion he)
  · exact h.stirred

theorem Run.rampEnd (h : Run s false k t) {b : BayId} (hb : t.bays[b].state = .ramping) : Run s false true (t.rampEnd b) := by
  rw [t.rampEnd_eq]
  exact (h.stir (.ramped b hb)).shedOwed _

end Sys2Proof.Machine

/-! ### The commands as runs of changes: the bays, the sequencer, the resets and the save -/

namespace Sys2Proof.Machine

open Safety

variable {s t : State} {g k : Bool}

theorem Runs.intro {c : Instr} (h : exec c s = .next t) (hr : Run s g false t) : Runs c s := ⟨t, g, h, hr⟩

theorem Runs.same {c : Instr} (h : exec c s = .next s) : Runs c s := .intro h .nil

/-- A command that acts under a condition and otherwise leaves the part as it is. -/
theorem Runs.of_ite {c : Instr} {p : Prop} [Decidable p] (h : exec c s = if p then .next t else .next s) (hr : p → Run s g false t) : Runs c s := by
  by_cases hp : p
  · exact .intro (h.trans (if_pos hp)) (hr hp)
  · exact .same (h.trans (if_neg hp))

theorem Run.keepRecord (h : Run s false k t) {b : BayId} {r : BayRecord} (hr : (t.bays[b]).SameStanding r)
    (hm : t.bays[b].state = .removing → r.state = .removing) : Run s false k (t.setBay b r) :=
  h.calm (.record b r hr hm)

/-! #### The bays (chapter 1) -/

/-- A bay that is idle, neither draining nor backing off nor shed-parked, takes another such state with its record. -/
theorem Run.moveBay (h : Run s false k t) {b : BayId} {x : BayState} (hb : t.bays[b].state.idle ∧ t.bays[b].state ≠ .removing ∧
      t.bays[b].state ≠ .powerFault ∧ t.bays[b].state ≠ .parked) (hx : x.idle ∧ x ≠ .removing ∧ x ≠ .powerFault) (retryCount : Nat)
    (hretry : t.bays[b].retryCount ≤ 7 → retryCount ≤ 7) :
    Run s false k (t.setBay b { t.bays[b] with state := x, retryCount := retryCount }) := by
  obtain ⟨hidle, hm, hf, hp⟩ := hb
  obtain ⟨hx, hxm, hxf⟩ := hx
  exact h.keepRecord (.of_idle hidle hx rfl rfl (baySound_moved ⟨hidle.1, hm, hf⟩ ⟨hx.1, hxm, hxf⟩ rfl (fun _ he => absurd he hp) hretry))
    fun he => absurd he hm

theorem runs_qualifiedInsertion (b : BayId) (s : State) : Runs (.qualifiedInsertion b) s := by
  change ∃ t g, execQualifiedInsertion b s = .next t ∧ _
  unfold execQualifiedInsertion
  split
  · exact ⟨_, _, rfl, Run.nil.setInput b _⟩
  · split
    · next he => exact ⟨_, _, rfl, (Run.nil.setInput b _).moveBay (by rw [State.setInput_bays, he]; decide) (by decide) _ id⟩
    · exact ⟨_, _, rfl, .nil⟩

theorem runs_settlingBounce (b : BayId) (s : State) : Runs (.settlingBounce b) s := by
  change ∃ t g, execSettlingBounce b s = .next t ∧ _
  unfold execSettlingBounce
  split
  · exact ⟨_, _, rfl, Run.nil.setInput b _⟩
  · split
    · next he => exact ⟨_, _, rfl, (Run.nil.setInput b _).moveBay (by rw [State.setInput_bays, he]; decide) (by decide) _ id⟩
    · exact ⟨_, _, rfl, .nil⟩

theorem runs_insertionDebounceExpiry (b : BayId) (s : State) : Runs (.insertionDebounceExpiry b) s := by
  change ∃ t g, execInsertionDebounceExpiry b s = .next t ∧ _
  unfold execInsertionDebounceExpiry
  split
  · next h =>
    obtain ⟨-, he, -⟩ := h
    have hinput := (Run.nil (s := s)).setInput b { s.inputs[b] with settleStart := none }
    dsimp only
    split
    · exact ⟨_, _, rfl, (hinput.enterQueued (by rw [State.setInput_bays, he]; decide)).afterBay true⟩
    · exact ⟨_, _, rfl, hinput.moveBay (by rw [State.setInput_bays, he]; decide) (by decide) _ id⟩
  · exact ⟨_, _, rfl, .nil⟩

theorem runs_qualifiedRemoval (b : BayId) (s : State) : Runs (.qualifiedRemoval b) s := by
  change ∃ t g, execQualifiedRemoval b s = .next t ∧ _
  unfold execQualifiedRemoval
  split
  · exact ⟨_, _, rfl, Run.nil.setInput b _⟩
  · split
    · exact ⟨_, _, rfl, ((Run.nil.setInput b _).enterEmpty b).afterBay _⟩
    · exact ⟨_, _, rfl, .nil⟩

theorem runs_qualifiedFltAssertion (b : BayId) (s : State) : Runs (.qualifiedFltAssertion b) s := by
  change ∃ t g, execQualifiedFltAssertion b s = .next t ∧ _
  unfold execQualifiedFltAssertion
  split
  · exact ⟨_, _, rfl, Run.nil.setInput b _⟩
  · dsimp only
    split
    · next hlive => exact ⟨_, _, rfl, ((Run.nil.setInput b _).enterPowerFault (b := b) hlive).afterBay true⟩
    · exact ⟨_, _, rfl, Run.nil.setInput b _⟩

theorem runs_qualifiedFltDeassertion (b : BayId) (s : State) : Runs (.qualifiedFltDeassertion b) s := by
  change ∃ t g, execQualifiedFltDeassertion b s = .next t ∧ _
  unfold execQualifiedFltDeassertion
  split <;> exact ⟨_, _, rfl, Run.nil.setInput b _⟩

theorem runs_qualifiedPgDeassertion (b : BayId) (s : State) : Runs (.qualifiedPgDeassertion b) s := by
  change ∃ t g, execQualifiedPgDeassertion b s = .next t ∧ _
  unfold execQualifiedPgDeassertion
  split
  · exact ⟨_, _, rfl, Run.nil.setInput b _⟩
  · dsimp only
    split
    · next hpg => exact ⟨_, _, rfl, ((Run.nil.setInput b _).enterPowerFault (b := b) (BayRecord.live_of_pgSupervised hpg)).afterBay true⟩
    · exact ⟨_, _, rfl, Run.nil.setInput b _⟩

theorem runs_qualifiedPgAssertion (b : BayId) (s : State) : Runs (.qualifiedPgAssertion b) s := by
  change ∃ t g, execQualifiedPgAssertion b s = .next t ∧ _
  unfold execQualifiedPgAssertion
  split
  · exact ⟨_, _, rfl, Run.nil.setInput b _⟩
  · dsimp only
    split
    · next hc => exact ⟨_, _, rfl, ((Run.nil.setInput b _).rampEnd ((State.rampComplete_iff _ b).mp hc).1).afterBay true⟩
    · exact ⟨_, _, rfl, Run.nil.setInput b _⟩

theorem runs_pgDeadline (b : BayId) (s : State) : Runs (.pgDeadline b) s := by
  change ∃ t g, execPgDeadline b s = .next t ∧ _
  unfold execPgDeadline
  split
  · next h =>
    split
    · refine ⟨_, _, rfl, Run.nil.keepRecord (.of_state rfl rfl rfl fun hs => ?_) id⟩
      obtain ⟨h1, h2, h3, h4, -, h⟩ := hs
      exact ⟨h1, h2, h3, h4, fun he => Bool.noConfusion he, h⟩
    · exact ⟨_, _, rfl, (Run.nil.enterPowerFault (b := b) (by rw [h.1]; rfl)).afterBay true⟩
  · exact ⟨_, _, rfl, .nil⟩

theorem runs_rampDeadline (b : BayId) (s : State) : Runs (.rampDeadline b) s :=
  .of_ite rfl fun hc => (Run.nil.rampEnd ((s.rampComplete_iff b).mp hc).1).afterBay true

theorem runs_drainExpiry (b : BayId) (s : State) : Runs (.drainExpiry b) s :=
  .of_ite rfl fun h => (Run.nil.drained h.1).afterBay _

theorem runs_backoffExpiry (b : BayId) (s : State) : Runs (.backoffExpiry b) s :=
  .of_ite rfl fun h => (Run.nil.enterQueued (b := b) (by rw [h.2.1]; decide)).afterBay true

/-! #### The sequencer (chapter 2) -/

theorem runs_staggerExpiry (s : State) : Runs .staggerExpiry s :=
  .of_ite rfl fun _ => (Run.nil.calm .stagger).consider

theorem runs_shedDelayReached (z : ZoneId) (s : State) : Runs (.shedDelayReached z) s := by
  refine .of_ite rfl fun h => (Run.nil.shedDue (z := z) ?_).afterBay _
  obtain ⟨start, hz, -⟩ := (s.shedDelayPassed_iff z).mp h.2
  rw [hz]
  exact fun he => ShedRecord.noConfusion he

theorem runs_shedIntervalReached (z : ZoneId) (s : State) : Runs (.shedIntervalReached z) s := by
  refine .of_ite rfl fun h => (Run.nil.shedDue (z := z) ?_).afterBay _
  obtain ⟨start, hz, -⟩ := (s.shedIntervalPassed_iff z).mp h.2
  rw [hz]
  exact fun he => ShedRecord.noConfusion he

/-! #### The resets and the load (chapter 10) -/

theorem runs_powerOnReset (s : State) : Runs .powerOnReset s := .intro rfl (Run.nil.calm .powerOn)

theorem runs_controllerReset (s : State) : Runs .controllerReset s := by
  change ∃ t g, execControllerReset s = .next t ∧ _
  unfold execControllerReset
  split
  · next hp => exact ⟨_, _, rfl, Run.nil.late (.reset true (.inl hp))⟩
  · next hp => exact ⟨_, _, rfl, Run.nil.late (.reset true (.inr (.inl ⟨rfl, hp⟩)))⟩
  · exact ⟨_, _, rfl, .nil⟩

theorem runs_rstnRelease (s : State) : Runs .rstnRelease s := by
  change ∃ t g, execRstnRelease s = .next t ∧ _
  unfold execRstnRelease
  split
  · next hp => exact ⟨_, _, rfl, Run.nil.calm (.release _ (.inl ⟨hp, rfl⟩))⟩
  · next hp => exact ⟨_, _, rfl, Run.nil.calm (.release _ (.inr ⟨hp, rfl⟩))⟩
  · exact ⟨_, _, rfl, .nil⟩

theorem runs_rstnPulseDuringPowerOnLoad (s : State) : Runs .rstnPulseDuringPowerOnLoad s := by
  change ∃ t g, execRstnPulseDuringPowerOnLoad s = .next t ∧ _
  unfold execRstnPulseDuringPowerOnLoad
  split
  · next hp => exact ⟨_, _, rfl, Run.nil.calm (.pulse hp)⟩
  · exact ⟨_, _, rfl, .nil⟩

theorem State.idle_of_reenqueued {s : State} {b : BayId} (h : s.reenqueued b = true) :
    s.bays[b].state.idle ∧ s.bays[b].state ≠ .removing := by
  rcases (s.reenqueued_iff b).mp h with ⟨hb, -⟩ | ⟨hb, -⟩ | ⟨hb, -⟩ <;> rw [hb] <;> decide

theorem runs_loadCompletion (mf : Bool) (s : State) : Runs (.loadCompletion mf) s := by
  by_cases h1 : s.phase = .powerOnLoad
  · exact .intro (exec_loadCompletion_powerOn h1 mf) (Run.nil.calm (.start mf h1))
  · by_cases h2 : s.phase = .resetLoad
    · have hjoined := ((Run.nil (s := s)).calm (.restart mf h2)).enterQueuedAll _ fun b => State.idle_of_reenqueued
      exact .intro (exec_loadCompletion_reset h2 mf) (by rw [State.finishReset_eq]; exact hjoined.consider)
    · refine .same ?_
      change execLoadCompletion mf s = _
      unfold execLoadCompletion
      split
      · next h => exact absurd h h1
      · next h => exact absurd h h2
      · rfl

/-! #### The save (section 10.5) -/

/-- The CMP moves within a save of a running part, into one or out of one. -/
theorem controlSound_of_save (s : State) (c : Cmp) (saving : Bool) (hs : s.mru.saveInProgress = isSaving s.cmp.state → saving = isSaving c.state)
    (hrun : s.cmp.state ≠ .loading ∨ s.phase = .running) (hc : c.state ≠ .loading)
    (hn : c.state ≠ .saving []) (hw : c.waitStart.isSome → isSaving c.state = true) (hr : c.readStart = s.cmp.readStart) (h : ControlSound s) :
    ControlSound { s with cmp := c, mru := { s.mru with saveInProgress := saving } } := by
  obtain ⟨h1, h2, h3, h4, h5, h6, h7, h8, h9, h10, -, -, -, h14, h15⟩ := h
  have hphase : s.phase = .running := hrun.elim (fun hl => not_not.mp fun hp => hl (h2.mpr hp)) id
  refine ⟨h1, iff_of_false hc fun hp => hp hphase, h3, h4, h5, h6, h7, h8, h9, hs h10, hn, fun hp => ?_, fun he => .inr (.inr (hw he)), ?_, h15⟩
  · rcases hp with hp | hp <;> exact absurd (hphase.symm.trans hp) fun he => Phase.noConfusion he
  · change c.readStart.isSome = true → _
    rw [hr]
    exact h14

/-- The save ends in IDLE. -/
theorem Run.endSave (h : Run s false k t) (m : Memory) (a : AttentionKind) (hs : t.cmp.state ≠ .loading)
    (hm : Memory.wf t.cmp.mem = true → Memory.wf m = true) : Run s false k (t.endSave m a) :=
  (h.calm (.save { t.cmp with state := .idle, mem := m, waitStart := none } false
    (controlSound_of_save t _ _ (fun _ => rfl) (.inl hs) (fun he => CmpState.noConfusion he) (fun he => CmpState.noConfusion he) (fun he => Bool.noConfusion he) rfl)
    hm)).raise a

theorem runs_saveWriteAcknowledged (s : State) : Runs .saveWriteAcknowledged s := by
  change ∃ t g, execSaveWriteAcknowledged s = .next t ∧ _
  unfold execSaveWriteAcknowledged
  split
  · split
    · next w w' rest hc =>
      have hsaving : isSaving s.cmp.state = true := by rw [hc]; rfl
      refine ⟨_, _, rfl, Run.nil.calm (.save _ s.mru.saveInProgress (controlSound_of_save s _ _ (fun he => he.trans hsaving) (.inl ?_)
        (fun he => CmpState.noConfusion he) (fun he => ?_) (fun _ => rfl) rfl) (Memory.wf_writeBytes w.offset w.bytes))⟩
      · rw [hc]
        exact fun he => CmpState.noConfusion he
      · exact List.cons_ne_nil _ _ (CmpState.saving.inj he)
    · next w hc =>
      exact ⟨_, _, rfl, Run.nil.endSave _ _ (by rw [hc]; exact fun he => CmpState.noConfusion he) (Memory.wf_writeBytes w.offset w.bytes)⟩
    · exact ⟨_, _, rfl, .nil⟩
  · exact ⟨_, _, rfl, .nil⟩

theorem runs_saveFailed (s : State) : Runs .saveFailed s := by
  change ∃ t g, execSaveFailed s = .next t ∧ _
  unfold execSaveFailed
  split
  · next ws hc =>
    refine ⟨_, _, rfl, (Run.nil.free s.inputs s.therm s.smap (s.freeCount + 1) s.mru.attention).endSave _ _ ?_ ?_⟩
    · rw [hc]
      exact fun he => CmpState.noConfusion he
    · exact Cmp.wf_failWrite s.cmp s.freeCount
  · exact ⟨_, _, rfl, .nil⟩

end Sys2Proof.Machine

/-! ### The commands as runs of changes: cooling, lights and the links -/

namespace Sys2Proof.Machine

open Safety

variable {s t : State} {g k : Bool}

/-! #### Cooling and the drive sources (chapters 3 to 5) -/

theorem convert_state_ne_pending (x : Sensor) (r : Int) : (x.convert r).state ≠ .pending := by
  unfold Sensor.convert
  split <;> exact fun he => SensorState.noConfusion he

theorem sensorSound_convert {x : Sensor} (r : Int) (h : SensorSound x) : SensorSound (x.convert r) := by
  obtain ⟨-, -, hheld⟩ := h
  unfold Sensor.convert
  split
  · next v hv =>
    refine ⟨fun he => SensorState.noConfusion he, fun _ => rfl, fun y hy => ?_⟩
    cases hy
    unfold classifyReading at hv
    grind
  · exact ⟨fun he => SensorState.noConfusion he, fun he => SensorState.noConfusion he, hheld⟩

theorem runs_sensorConversion (k : SensorId) (reading : Int) (s : State) : Runs (.sensorConversion k reading) s := by
  refine .of_ite (g := false) rfl fun h => ?_
  obtain ⟨hr, hc⟩ := (s.nextConversion_iff k).mp h
  exact (Run.nil.calm (.sensor k _ reading (sensorSound_convert reading) (convert_state_ne_pending _ _) hr hc)).raiseIf _ _

theorem driveSound_stale {d : Drive} (h : DriveSound d) : DriveSound d.goStale := by
  obtain ⟨-, -, -, hv⟩ := h
  exact ⟨fun he => DriveState.noConfusion he, fun he => DriveState.noConfusion he,
    iff_of_false (fun he => Bool.noConfusion he) fun he => DriveState.noConfusion he, hv⟩

theorem runs_driveAgeExpiry (b : BayId) (s : State) : Runs (.driveAgeExpiry b) s :=
  .of_ite rfl fun h => Run.nil.calm (.drive b _ driveSound_stale fun _ => .inr (by rw [h.1]; exact fun he => DriveState.noConfusion he))

/-- A fan out of STOPPED with a duty takes another such state, its counts in range. -/
theorem fanSound_turning {x y : Fan} (hx : x.state ≠ .stopped) (hy : y.state ≠ .stopped)
    (hframe : y = { x with state := y.state, grace := y.grace, lowCount := y.lowCount, goodCount := y.goodCount, skipWindow := y.skipWindow })
    (hl : y.lowCount ≤ 2) (hg : y.goodCount ≤ 2) (h : FanSound x) : FanSound y := by
  obtain ⟨hd, hstop, -, -, hp, hc, hn, hrpm⟩ := h
  rw [hframe]
  exact ⟨hd, iff_of_false (fun he => hx (hstop.mp he)) hy, hl, hg, hp, hc, hn, hrpm⟩

theorem runs_fanGraceExpiry (f : FanId) (s : State) : Runs (.fanGraceExpiry f) s :=
  .of_ite rfl fun h => Run.nil.calm (.fan f _ (fanSound_turning (by rw [h.2.2.1]; exact fun he => FanState.noConfusion he)
    (fun he => FanState.noConfusion he) rfl (Nat.zero_le _) (Nat.zero_le _)) rfl)

theorem runs_tachEdge (f : FanId) (s : State) : Runs (.tachEdge f) s := by
  refine .of_ite rfl fun _ => Run.nil.calm (.fan f _ (fun h => ?_) rfl)
  obtain ⟨hd, hstop, hl, hg, -, h⟩ := h
  exact ⟨hd, hstop, hl, hg, min_le_left _ _, h⟩

theorem runs_pwmCycleEnd (f : FanId) (s : State) : Runs (.pwmCycleEnd f) s := by
  refine .intro rfl (Run.nil.calm (.fan f _ (fun h => ?_) rfl))
  obtain ⟨hd, hstop, hl, hg, hp, hc, -, h⟩ := h
  exact ⟨hd, hstop, hl, hg, hp, hc, hc, h⟩

theorem State.idle_of_returns {s : State} {b : BayId} (h : s.returns b = true) : s.bays[b].state.idle ∧ s.bays[b].state ≠ .removing := by
  rw [((s.returns_iff b).mp h).1]
  decide

theorem Run.periodEnd {u : State} (h : Run s false k u.periodWork) : Run s true k u.periodEnd := by
  rw [u.periodEnd_eq, State.periodGroup]
  have hidle (b : BayId) (hb : u.returns b = true) := State.idle_of_returns hb
  exact (h.enterQueuedAll u.returns hidle).considerIf _

theorem runs_controlPeriodEnd (s : State) : Runs .controlPeriodEnd s := by
  refine .of_ite (g := true) rfl fun h => ?_
  simp only [State.periodOver, Bool.and_eq_true, decide_eq_true_eq] at h
  obtain ⟨⟨hr, hdue⟩, -⟩ := h
  obtain ⟨p, hp, -⟩ := (reached_iff _ _).mp hdue
  rw [hp]
  exact (Run.nil.calm (.period (p + Config.controlPeriodMs) hr (by rw [hp]; exact Option.some_ne_none p))).periodEnd

/-! #### The lights (chapter 6) -/

/-- The lines of every bay after a change, where the clock and the link-lost mark are sound. -/
theorem lineSound_tickLine (s : State) (b : BayId) (ln : LineName) (l : Line) : LineSound (s.tickLine b ln l) := by
  obtain ⟨-, hdriven, -, hdark, hlit⟩ := s.tickLine_spec b ln l
  refine ⟨hdriven, ?_⟩
  cases hshown : (s.tickLine b ln l).shown with
  | none =>
    rw [(hdark hshown).1]
    exact Iff.rfl
  | some id =>
    obtain ⟨p, -, hp, -⟩ := hlit id hshown
    rw [hp]
    exact iff_of_true rfl rfl

theorem runs_lightTick (s : State) : Runs .lightTick s := by
  refine .of_ite (g := false) rfl fun h => ?_
  obtain ⟨n, hn, -⟩ := (reached_iff _ _).mp h.2
  rw [hn]
  refine Run.nil.calm (.lights _ (some (n + Config.lightTickMs)) (fun hs => ?_) (by rw [hn]; exact iff_of_false (Option.some_ne_none _) (Option.some_ne_none _)))
  obtain ⟨-, -, hlost⟩ := hs
  refine ⟨fun b => ?_, Nat.mod_lt _ (by decide), hlost⟩
  simp only [get_ofFn]
  exact ⟨lineSound_tickLine _ _ _ _, lineSound_tickLine _ _ _ _⟩

theorem runs_activityStretchExpiry (b : BayId) (s : State) : Runs (.activityStretchExpiry b) s :=
  .of_ite rfl fun _ => Run.nil.setApplied b _

/-! #### The upstream link (chapters 7 and 8) -/

/-- An entry to FAULT from a link that is not DISABLED, and the end of a RESTART whose reply was lost with it (R138, R139, R178). -/
theorem Run.faulted (h : Run s false k t) (hd : t.liu.link ≠ .disabled) {n : Nat} (hn : n ≤ 256) : Run s true k (Faulted t n).replyLost := by
  unfold Faulted
  split
  · exact h.cut (.lost _ (FaultLiu_empties hd hn true) _ Grants.none.consider)
  · refine h.cut (.emptied _ (FaultLiu_empties hd hn false) (fun hl => ?_) _ (Grants.none.considerIf _))
    exact hl.elim (fun he => LinkState.noConfusion he) fun he => Bool.noConfusion he.2

/-- An entry to FAULT from TRAINING, where no reply waits (R139). -/
theorem Run.enterFault_of_training (h : Run s false k t) (hl : t.liu.link = .training) : Run s true k t.enterFault := by
  have hd : t.liu.link ≠ .disabled := by rw [hl]; exact fun he => LinkState.noConfusion he
  have hempties (latch : Bool) (hs : LinkSound t.liu) :=
    (FaultLiu_empties hd (t.liu.errorCount.le_refl.trans hs.1) latch).sound hs
  have hsound (latch : Bool) (hs : LinkSound t.liu) :
      LinkSound (FaultLiu t.liu t.liu.errorCount latch) ∧ restartReplies (FaultLiu t.liu t.liu.errorCount latch) = restartReplies t.liu :=
    ⟨hempties latch hs, (restartReplies_of_quiet hs (by rw [hl]; rfl)).symm⟩
  have hdis (latch : Bool) : (FaultLiu t.liu t.liu.errorCount latch).link = .disabled ↔ t.liu.link = .disabled :=
    iff_of_false (fun he => LinkState.noConfusion he) hd
  rw [t.enterFault_eq]
  split
  · exact (h.calm (.lost _ (hsound true) (hdis true))).consider
  · refine (h.link ⟨hsound false, hdis false, fun he => ?_⟩).granted
    exact he.elim (fun he => LinkState.noConfusion he) fun he => Bool.noConfusion he.2

theorem Run.startTraining (h : Run s false k t) (hd : t.liu.link ≠ .disabled) (kind : TrainKind) (hop : BitVec 4) :
    Run s true k (t.startTraining kind hop).replyLost := by
  by_cases hbig : 3 < hop.toNat
  · rw [State.startTraining_of_bad_hop hbig]
    exact h.faulted hd (Nat.zero_le _)
  · have hgood : t.startTraining kind hop =
        State.considerIf { t with liu := (t.liu.enterTraining kind hop).answer kind hop } t.linkLost := if_neg hbig
    rw [hgood]
    refine h.cut (.emptied _ (.training hd kind hop) (fun hl => ?_) _ (Grants.none.considerIf _))
    exact hl.elim (fun he => LinkState.noConfusion he) fun he => LinkState.noConfusion he.1

theorem runs_trainingWord (kind : TrainKind) (hop : BitVec 4) (s : State) : Runs (.trainingWord kind hop) s := by
  change ∃ t g, execTrainingWord kind hop s = .next t ∧ _
  unfold execTrainingWord
  split
  · exact ⟨_, _, rfl, .nil⟩
  · next hl =>
    refine ⟨_, true, rfl, ?_⟩
    by_cases hbig : 3 < hop.toNat
    · have hfault : s.continueTraining kind hop = s.enterFault := if_pos hbig
      rw [hfault]
      exact Run.nil.enterFault_of_training hl
    · rw [State.continueTraining_of_hop (Nat.not_lt.mp hbig)]
      exact (Run.nil.link (.trainingWord hl (Nat.lt_succ_of_le (Nat.not_lt.mp hbig)) kind _ _)).granted
  · next hl =>
    split
    · exact ⟨_, _, rfl, Run.nil.startTraining (by rw [hl]; exact fun he => LinkState.noConfusion he) kind hop⟩
    · exact ⟨_, _, rfl, .nil⟩
  · next hd _ _ => exact ⟨_, _, rfl, Run.nil.startTraining hd kind hop⟩

theorem runs_trainingInterrupted (s : State) : Runs .trainingInterrupted s :=
  .of_ite rfl fun h => Run.nil.link (.interruptTraining h)

theorem runs_upstreamBadFrame (s : State) : Runs .upstreamBadFrame s := by
  by_cases hl : s.liu.link = .aligned ∨ s.liu.link = .silent
  · have hd : s.liu.link ≠ .disabled := by rcases hl with h | h <;> rw [h] <;> exact fun he => LinkState.noConfusion he
    have hexec := exec_upstreamBadFrame_taken hl
    by_cases hge : 256 ≤ s.liu.errorCount + 8
    · have hnot : State.linkLost { s with liu := { s.liu with errorCount := 256 } } = false := by
        refine State.linkLost_of_link ?_ ?_ <;> rcases hl with h | h <;> change s.liu.link ≠ _ <;> rw [h] <;> decide
      have hlost : s.linkLost = false := hnot
      rw [if_pos (by omega), Nat.min_eq_left (by omega), State.moveErrorCount_to_fault hge, State.enterFault_eq_faulted hnot] at hexec
      have hsame : Faulted { s with liu := { s.liu with errorCount := 256 } } 256 = Faulted s 256 := by
        simp only [Faulted, hnot, hlost]
        rfl
      exact .intro hexec (by rw [hsame]; exact Run.nil.faulted hd le_rfl)
    · rw [if_neg (by omega)] at hexec
      exact .intro hexec (Run.nil.linkFrame (s.moveErrorCount_frame _) (by rw [State.moveErrorCount_eq]; exact .errorCount _ (by omega)))
  · change ∃ t g, execUpstreamBadFrame s = .next t ∧ _
    unfold execUpstreamBadFrame
    rw [if_neg fun h => hl (s.takesFrames_iff.mp h)]
    split
    · next ht => exact ⟨_, _, rfl, Run.nil.link (.interruptTraining ht)⟩
    · exact ⟨_, _, rfl, .nil⟩

theorem runs_upstreamFill (s : State) : Runs .upstreamFill s := by
  change ∃ t g, execUpstreamFill s = .next t ∧ _
  unfold execUpstreamFill
  split
  · exact ⟨_, _, rfl, Run.nil.acceptFrame.resumeDown⟩
  · exact ⟨_, _, rfl, Run.nil.acceptFrame⟩

theorem runs_silenceTimeout (s : State) : Runs .silenceTimeout s := .of_ite rfl fun h => Run.nil.link (.goSilent h.1)

theorem runs_autonomyTimeout (s : State) : Runs .autonomyTimeout s :=
  .of_ite rfl fun h => Run.nil.cut (.lost _ (.lost h.1) _ Grants.none.consider)

theorem runs_lostLatchSet (s : State) : Runs .lostLatchSet s := by
  refine .of_ite rfl fun h => (Run.nil.calm (.lost { s.liu with lostLatch := true } (fun hs => ⟨?_, rfl⟩) Iff.rfl)).consider
  obtain ⟨h1, h2, -, hs⟩ := hs
  exact ⟨h1, h2, fun _ => h.1, hs⟩

theorem runs_returnLaneFrameEnd (s : State) : Runs .returnLaneFrameEnd s := by
  change ∃ t g, execReturnLaneFrameEnd s = .next t ∧ _
  unfold execReturnLaneFrameEnd
  split
  · next hc =>
    split
    · exact ⟨_, _, rfl, .nil⟩
    · exact ⟨_, _, rfl, .nil⟩
    · next r hu =>
      split
      · next hr =>
        refine ⟨_, _, rfl, Run.nil.cut (.emptied _ (.nextUp hc hu hr) (fun hl => ?_) _ .none)⟩
        have hframe := s.liu.nextUp_frame
        unfold UpFrame at hframe
        rw [hframe] at hl
        exact hl
      · next hr => exact ⟨_, _, rfl, Run.nil.link (.nextUp hc (by rw [hu]; exact if_neg hr))⟩
    · next r hu => exact ⟨_, _, rfl, Run.nil.link (.nextUp hc (by rw [hu]; rfl))⟩
    · next hu => exact ⟨_, _, rfl, Run.nil.link (.nextUp hc (by rw [hu]; rfl))⟩
  · exact ⟨_, _, rfl, .nil⟩

/-! #### Sweeps (R155, R157) -/

theorem State.giveUp_port (s : State) : s.giveUp.liu.port = s.liu.port := by
  cases h : s.liu.outstanding with
  | nil => simp only [State.giveUp, h]
  | cons e rest =>
    rw [State.giveUp_cons h]
    have hup := s.liu.pendReturn_frame (s.missing e)
    unfold UpFrame at hup
    dsimp only
    rw [hup]

theorem State.giveUpMany_port (n : Nat) (s : State) : (State.giveUpMany n s).liu.port = s.liu.port := by
  induction n generalizing s with
  | zero => rfl
  | succ n ih => exact (ih _).trans s.giveUp_port

theorem State.appendOutstanding_port (s : State) (n : Byte) : (s.appendOutstanding n).liu.port = s.liu.port := by
  change (s.giveUpThrough n).makeRoom.liu.port = _
  have hthrough : (s.giveUpThrough n).liu.port = s.liu.port := by
    unfold State.giveUpThrough
    split
    · exact State.giveUpMany_port _ s
    · rfl
  rw [← hthrough]
  unfold State.makeRoom
  split
  · rfl
  · exact State.giveUp_port _

theorem lightsSound_of_mark_cleared {s : State} (h : s.linkLost = false) (hs : LightsSound s) :
    LightsSound { s with len := { s.len with linkLost := false } } := by
  obtain ⟨hlines, hclock, -⟩ := hs
  exact ⟨hlines, hclock, fun he => Bool.noConfusion (h.symm.trans he)⟩

/-- The sweep applied on a link that is ALIGNED (R113, R155). -/
theorem Run.swept (h : Run s false k t) (hl : t.liu.link = .aligned) (slots : Slots) : Run s false k (t.swept slots) := by
  have hlost : t.linkLost = false := State.linkLost_of_link (by rw [hl]; decide) (by rw [hl]; decide)
  unfold State.swept
  split
  · have hlit := h.calm (.lights { t.len with linkLost := false } t.tb.nextLight (lightsSound_of_mark_cleared hlost) Iff.rfl)
    have hmap := hlit.free t.inputs t.therm (t.applySweep slots).smap t.freeCount t.mru.attention
    have happly : t.applySweep slots = { t with smap := (t.applySweep slots).smap, len := { t.len with linkLost := false } } := by
      simp only [State.applySweep]
    rw [happly]
    exact hmap
  · exact h

theorem Run.takeSweep (h : Run s false k t) (hl : t.liu.link = .aligned) (n : Byte) (slots : Slots) : Run s false k (t.takeSweep n slots) := by
  have hswept := h.swept hl slots
  have hport : (t.swept slots).liu.port = t.liu.port := by rw [t.swept_eq]
  by_cases hp : t.liu.port = .aligned
  · rw [State.takeSweep_of_aligned hp]
    exact (hswept.linkFrame (State.appendOutstanding_frame _ n) (State.appendOutstanding_moves (hport.trans hp) n)).link
      (.forward ((State.appendOutstanding_port _ n).trans (hport.trans hp)) _)
  · rw [State.takeSweep_of_not_aligned hp]
    exact hswept.originate n

theorem State.acceptFrame_link {s : State} (hl : s.liu.link = .aligned ∨ s.liu.link = .silent) : s.acceptFrame.liu.link = .aligned := by
  rw [(s.acceptFrame_taken hl).2]

theorem runs_upstreamSweep (n : Byte) (slots : Slots) (s : State) : Runs (.upstreamSweep n slots) s := by
  by_cases hl : s.liu.link = .aligned ∨ s.liu.link = .silent
  · exact .intro (exec_upstreamSweep_taken hl n slots) (Run.nil.acceptFrame.takeSweep (State.acceptFrame_link hl) n slots).resumeDown
  · exact .intro (exec_frame_not_taken hl n slots 0 0 0 [] _ (by simp)) Run.nil.acceptFrame

/-! #### The downstream port (R145 to R147, R158 to R162) -/

theorem runs_probeAnswer (kind : TrainKind) (hop : BitVec 4) (s : State) : Runs (.probeAnswer kind hop) s := by
  change ∃ t g, execProbeAnswer kind hop s = .next t ∧ _
  unfold execProbeAnswer
  split
  · next hp =>
    have hoff : s.liu.port ≠ .off := by rw [hp]; exact fun he => PortState.noConfusion he
    have hcounted (n : Nat) : ∃ t g, (if 8 ≤ n then Host.Outcome.next { s with liu := s.liu.portAligned s.now }
        else Host.Outcome.next (φ := Fault) (ρ := Refusal) { s with liu := { s.liu with probeAnswer := some kind, probeCount := n } }) = .next t ∧ Run s g false t := by
      split
      · exact ⟨_, _, rfl, Run.nil.link (.of_running_port (s.liu.portAligned_frame _) hoff)⟩
      · exact ⟨_, _, rfl, Run.nil.link (.of_running_port rfl hoff)⟩
    exact hcounted _
  · exact ⟨_, _, rfl, .nil⟩

theorem runs_probeTimeout (s : State) : Runs .probeTimeout s :=
  .of_ite rfl fun h => Run.nil.link (.of_running_port (s.liu.portAbsent_frame _) (by rw [h.1]; exact fun he => PortState.noConfusion he))

theorem runs_probeRetry (s : State) : Runs .probeRetry s :=
  .of_ite rfl fun h => Run.nil.link (.of_running_port (s.liu.startProbe_frame _) (by rw [h.1]; exact fun he => PortState.noConfusion he))

theorem runs_returnWatchTimeout (s : State) : Runs .returnWatchTimeout s :=
  .of_ite rfl fun h => Run.nil.link (.of_running_port (s.liu.portAbsent_frame _) (by rw [h.1]; exact fun he => PortState.noConfusion he))

theorem Run.matchReturn (h : Run s g k t) (r : ReturnFrame) : Run s g k (t.matchReturn r) := by
  cases hp : outstandingPlace r.number t.liu.outstanding with
  | none =>
    have hsame : t.matchReturn r = t := by simp only [State.matchReturn, hp]
    rw [hsame]
    exact h
  | some i =>
    rw [State.matchReturn_of_place hp]
    have hgiven := h.linkFrame (t.giveUpMany_frame i) (State.giveUpMany_moves i t)
    exact (hgiven.link (.outstanding (List.drop_sublist 1 _))).link (.pendReturn _ _)

theorem runs_downstreamReturn (n : Byte) (a : Bool) (o : Byte) (slots : Slots) (s : State) : Runs (.downstreamReturn n a o slots) s :=
  .of_ite rfl fun _ => (Run.nil.link (.watched _ _)).matchReturn _

theorem runs_downstreamReply (source tag status : Byte) (payload : List Byte) (s : State) : Runs (.downstreamReply source tag status payload) s :=
  .of_ite rfl fun _ => (Run.nil.link (.watched _ _)).link (.pushReply _ rfl)

theorem runs_downstreamOtherFrame (s : State) : Runs .downstreamOtherFrame s := .of_ite rfl fun _ => Run.nil.link (.watched _ _)

theorem runs_outstandingDeadline (s : State) : Runs .outstandingDeadline s :=
  .intro rfl (Run.nil.linkFrame (State.giveUpDue_frame _ s) (State.giveUpDue_moves _ s))

theorem runs_downstreamLaneFrameEnd (s : State) : Runs .downstreamLaneFrameEnd s := by
  change ∃ t g, execDownstreamLaneFrameEnd s = .next t ∧ _
  unfold execDownstreamLaneFrameEnd
  split
  · next hp =>
    split
    · exact ⟨_, _, rfl, .nil⟩
    · exact ⟨_, _, rfl, .nil⟩
    · exact ⟨_, _, rfl, Run.nil.link (.nextDown hp)⟩
    · exact ⟨_, _, rfl, Run.nil.link (.nextDown hp)⟩
  · exact ⟨_, _, rfl, .nil⟩

end Sys2Proof.Machine

/-! ### The tables: replacing one, and what a write that passes its checks keeps (R170, R185) -/

namespace Sys2Proof.Machine

/-! #### One table replaced -/

/-- The tables t with the table `id` of u. -/
def Tables.withTable (t : Tables) (id : TableId) (u : Tables) : Tables :=
  match id with
  | .bayMap => { t with bayMap := u.bayMap }
  | .baySettings => { t with baySettings := u.baySettings }
  | .classes => { t with classes := u.classes }
  | .limits => { t with limits := u.limits }
  | .indications => { t with indications := u.indications }
  | .patterns => { t with patterns := u.patterns }
  | .curves => { t with curves := u.curves }
  | .sensors => { t with sensors := u.sensors }
  | .zones => { t with zones := u.zones }
  | .fans => { t with fans := u.fans }
  | .linkSettings => { t with link := u.link }

theorem Tables.toDefault_eq (t : Tables) (id : TableId) : t.toDefault id = t.withTable id defaultTables := by
  cases id <;> rfl

theorem Tables.withTable_limits {id : TableId} (t u : Tables) (h : id ≠ .limits) : (t.withTable id u).limits = t.limits := by
  cases id
  case limits => exact absurd rfl h
  all_goals rfl

theorem Tables.withTable_fans {id : TableId} (t u : Tables) (h : id ≠ .fans) : (t.withTable id u).fans = t.fans := by
  cases id
  case fans => exact absurd rfl h
  all_goals rfl

/-- Every entry of the table is in range. -/
def Tables.rangeAt (t : Tables) : TableId → Prop
  | .bayMap => True
  | .baySettings => True
  | .classes => ∀ c : ClassId, t.classes[c].inRange = true
  | .limits => t.limits.inRange = true
  | .indications => True
  | .patterns => ∀ p : PatternId, t.patterns[p].inRange = true
  | .curves => ∀ c : CurveId, t.curves[c].inRange = true
  | .sensors => ∀ k : SensorId, t.sensors[k].inRange = true
  | .zones => ∀ z : ZoneId, t.zones[z].inRange = true
  | .fans => ∀ f : FanId, t.fans[f].inRange = true
  | .linkSettings => t.link.inRange = true

/-- The table meets its constraint. -/
def Tables.constraintAt (t : Tables) : TableId → Prop
  | .bayMap => bayMapUnique t.bayMap = true
  | .classes => ∀ c : ClassId, t.classes[c].constraint = true
  | .curves => ∀ c : CurveId, t.curves[c].constraint = true
  | .fans => ∀ f : FanId, t.fans[f].constraint = true
  | _ => True

theorem Tables.wf_iff_at (t : Tables) : t.wf = true ↔ ∀ id, t.rangeAt id ∧ t.constraintAt id := by
  rw [t.wf_iff]
  constructor
  · rintro ⟨hmap, hclass, hlimits, hpattern, hcurve, hsensor, hzone, hfan, hlink⟩ id
    cases id
    case bayMap => exact ⟨trivial, hmap⟩
    case baySettings => exact ⟨trivial, trivial⟩
    case classes => exact ⟨fun c => (hclass c).1, fun c => (hclass c).2⟩
    case limits => exact ⟨hlimits, trivial⟩
    case indications => exact ⟨trivial, trivial⟩
    case patterns => exact ⟨hpattern, trivial⟩
    case curves => exact ⟨fun c => (hcurve c).1, fun c => (hcurve c).2⟩
    case sensors => exact ⟨hsensor, trivial⟩
    case zones => exact ⟨hzone, trivial⟩
    case fans => exact ⟨fun f => (hfan f).1, fun f => (hfan f).2⟩
    case linkSettings => exact ⟨hlink, trivial⟩
  · intro h
    exact ⟨(h .bayMap).2, fun c => ⟨(h .classes).1 c, (h .classes).2 c⟩, (h .limits).1, (h .patterns).1,
      fun c => ⟨(h .curves).1 c, (h .curves).2 c⟩, (h .sensors).1, (h .zones).1, fun f => ⟨(h .fans).1 f, (h .fans).2 f⟩, (h .linkSettings).1⟩

theorem Tables.withTable_at {t u : Tables} {id id' : TableId} (h : id' ≠ id) :
    ((t.withTable id u).rangeAt id' ↔ t.rangeAt id') ∧ ((t.withTable id u).constraintAt id' ↔ t.constraintAt id') := by
  cases id <;> cases id' <;> simp_all [Tables.withTable, Tables.rangeAt, Tables.constraintAt]

/-- Tables in range with one table in range in place of another. -/
theorem Tables.wf_withTable {t u : Tables} {id : TableId} (ht : t.wf = true)
    (hu : (t.withTable id u).rangeAt id ∧ (t.withTable id u).constraintAt id) : (t.withTable id u).wf = true := by
  rw [Tables.wf_iff_at] at ht ⊢
  intro id'
  by_cases h : id' = id
  · rw [h]
    exact hu
  · exact ⟨(Tables.withTable_at h).1.mpr (ht id').1, (Tables.withTable_at h).2.mpr (ht id').2⟩

/-! #### One entry put in its place -/

theorem keepIf_eq_some {α : Type} {ok : α → Bool} {a b : α} : keepIf ok a = some b ↔ ok a = true ∧ a = b := by
  unfold keepIf
  split <;> simp_all

theorem putAt_eq_some {α : Type} {n : Nat} {v w : Vector α n} {i : Nat} {a : α} :
    putAt v i a = some w ↔ ∃ h : i < n, v.set i a = w := by
  unfold putAt
  split
  · next h => simp [h]
  · next h => simp [h]

theorem putAt_get {α : Type} {n : Nat} {v w : Vector α n} {i : Nat} {a : α} (h : putAt v i a = some w) (j : Fin n) :
    w[j] = if j.val = i then a else v[j] := by
  obtain ⟨hi, rfl⟩ := putAt_eq_some.mp h
  simp only [Fin.getElem_fin, Vector.getElem_set, eq_comm]

/-- A write to one place keeps what holds of every entry. -/
theorem putAt_forall {α : Type} {n : Nat} (ok : α → Bool) {v w : Vector α n} {i : Nat} {a : α} (h : putAt v i a = some w) (ha : ok a = true)
    (hv : ∀ j : Fin n, ok v[j] = true) (j : Fin n) : ok w[j] = true := by
  rw [putAt_get h j]
  split
  · exact ha
  · exact hv j

theorem DriveClass.inRange_of_decode {raw : List Byte} {e : DriveClass} (h : DriveClass.decode raw = some e) : e.inRange = true := by
  unfold DriveClass.decode at h
  split at h
  · obtain ⟨hok, rfl⟩ := keepIf_eq_some.mp h
    exact hok
  · exact absurd h (Option.some_ne_none _).symm

theorem Limits.inRange_of_decode {raw : List Byte} {e : Limits} (h : Limits.decode raw = some e) : e.inRange = true := by
  unfold Limits.decode at h
  split at h
  · simp only [Option.bind_eq_bind, Option.bind_eq_some_iff] at h
    obtain ⟨_, -, _, -, h⟩ := h
    obtain ⟨hok, rfl⟩ := keepIf_eq_some.mp h
    exact hok
  · exact absurd h (Option.some_ne_none _).symm

theorem Pattern.inRange_of_decode {raw : List Byte} {e : Pattern} (h : Pattern.decode raw = some e) : e.inRange = true := by
  unfold Pattern.decode at h
  split at h
  · simp only [Option.bind_eq_bind, Option.bind_eq_some_iff] at h
    obtain ⟨_, -, _, -, h⟩ := h
    obtain ⟨hok, rfl⟩ := keepIf_eq_some.mp h
    exact hok
  · exact absurd h (Option.some_ne_none _).symm

theorem Curve.inRange_of_decode {raw : List Byte} {e : Curve} (h : Curve.decode raw = some e) : e.inRange = true := by
  unfold Curve.decode at h
  split at h
  · simp only [Option.bind_eq_bind, Option.bind_eq_some_iff] at h
    obtain ⟨_, -, h⟩ := h
    obtain ⟨hok, rfl⟩ := keepIf_eq_some.mp h
    exact hok
  · exact absurd h (Option.some_ne_none _).symm

theorem SensorSetting.inRange_of_decode {raw : List Byte} {e : SensorSetting} (h : SensorSetting.decode raw = some e) : e.inRange = true := by
  unfold SensorSetting.decode at h
  split at h
  · simp only [Option.bind_eq_bind, Option.bind_eq_some_iff] at h
    obtain ⟨_, -, h⟩ := h
    obtain ⟨hok, rfl⟩ := keepIf_eq_some.mp h
    exact hok
  · exact absurd h (Option.some_ne_none _).symm

theorem ZoneSetting.inRange_of_decode {raw : List Byte} {e : ZoneSetting} (h : ZoneSetting.decode raw = some e) : e.inRange = true := by
  unfold ZoneSetting.decode at h
  split at h
  · simp only [Option.bind_eq_bind, Option.bind_eq_some_iff] at h
    obtain ⟨_, -, _, -, h⟩ := h
    obtain ⟨hok, rfl⟩ := keepIf_eq_some.mp h
    exact hok
  · exact absurd h (Option.some_ne_none _).symm

theorem FanSetting.inRange_of_decode {raw : List Byte} {e : FanSetting} (h : FanSetting.decode raw = some e) : e.inRange = true := by
  unfold FanSetting.decode at h
  split at h
  · simp only [Option.bind_eq_bind, Option.bind_eq_some_iff] at h
    obtain ⟨_, -, _, -, h⟩ := h
    obtain ⟨hok, rfl⟩ := keepIf_eq_some.mp h
    exact hok
  · exact absurd h (Option.some_ne_none _).symm

theorem LinkSetting.inRange_of_decode {raw : List Byte} {e : LinkSetting} (h : LinkSetting.decode raw = some e) : e.inRange = true := by
  unfold LinkSetting.decode at h
  split at h
  · obtain ⟨hok, rfl⟩ := keepIf_eq_some.mp h
    exact hok
  · exact absurd h (Option.some_ne_none _).symm

/-- What an entry that passes its checks does, table by table. -/
theorem Tables.putEntry_eq_some {t u : Tables} {id : TableId} {i : Nat} {raw : List Byte} (h : t.putEntry id i raw = some u) :
    (id = .bayMap ∧ ∃ b e v, raw = [b] ∧ slotOf b = some e ∧ putAt t.bayMap i e = some v ∧ u = { t with bayMap := v }) ∨
    (id = .baySettings ∧ ∃ e v, BaySetting.decode raw = some e ∧ putAt t.baySettings i e = some v ∧ u = { t with baySettings := v }) ∨
    (id = .classes ∧ ∃ e v, DriveClass.decode raw = some e ∧ putAt t.classes i e = some v ∧ u = { t with classes := v }) ∨
    (id = .limits ∧ ∃ e, Limits.decode raw = some e ∧ u = { t with limits := e }) ∨
    (id = .indications ∧ ∃ e v, IndicationEntry.decode raw = some e ∧ putAt t.indications i e = some v ∧ u = { t with indications := v }) ∨
    (id = .patterns ∧ ∃ e v, Pattern.decode raw = some e ∧ putAt t.patterns i e = some v ∧ u = { t with patterns := v }) ∨
    (id = .curves ∧ ∃ e v, Curve.decode raw = some e ∧ putAt t.curves i e = some v ∧ u = { t with curves := v }) ∨
    (id = .sensors ∧ ∃ e v, SensorSetting.decode raw = some e ∧ putAt t.sensors i e = some v ∧ u = { t with sensors := v }) ∨
    (id = .zones ∧ ∃ e v, ZoneSetting.decode raw = some e ∧ putAt t.zones i e = some v ∧ u = { t with zones := v }) ∨
    (id = .fans ∧ ∃ e v, FanSetting.decode raw = some e ∧ putAt t.fans i e = some v ∧ u = { t with fans := v }) ∨
    (id = .linkSettings ∧ ∃ e, LinkSetting.decode raw = some e ∧ u = { t with link := e }) := by
  cases id
  case bayMap =>
    match raw, h with
    | [b], h =>
      simp only [Tables.putEntry, Option.bind_eq_bind, Option.bind_eq_some_iff, Option.some.injEq] at h
      obtain ⟨e, he, v, hv, rfl⟩ := h
      exact .inl ⟨rfl, b, e, v, rfl, he, hv, rfl⟩
  case limits =>
    simp only [Tables.putEntry, Option.bind_eq_bind, Option.bind_eq_some_iff, Option.some.injEq] at h
    obtain ⟨e, he, rfl⟩ := h
    simp [he]
  case linkSettings =>
    simp only [Tables.putEntry, Option.bind_eq_bind, Option.bind_eq_some_iff, Option.some.injEq] at h
    obtain ⟨e, he, rfl⟩ := h
    simp [he]
  all_goals
    simp only [Tables.putEntry, Option.bind_eq_bind, Option.bind_eq_some_iff, Option.some.injEq] at h
    obtain ⟨e, he, v, hv, rfl⟩ := h
    simp [he, hv]

theorem Tables.putEntry_frame {t u : Tables} {id : TableId} {i : Nat} {raw : List Byte} (h : t.putEntry id i raw = some u) :
    u = t.withTable id u := by
  rcases Tables.putEntry_eq_some h with ⟨rfl, _, _, _, -, -, -, rfl⟩ | ⟨rfl, _, _, -, -, rfl⟩ | ⟨rfl, _, _, -, -, rfl⟩ | ⟨rfl, _, -, rfl⟩ |
    ⟨rfl, _, _, -, -, rfl⟩ | ⟨rfl, _, _, -, -, rfl⟩ | ⟨rfl, _, _, -, -, rfl⟩ | ⟨rfl, _, _, -, -, rfl⟩ | ⟨rfl, _, _, -, -, rfl⟩ |
    ⟨rfl, _, _, -, -, rfl⟩ | ⟨rfl, _, -, rfl⟩ <;> rfl

theorem Tables.putEntry_rangeAt {t u : Tables} {id : TableId} {i : Nat} {raw : List Byte} (h : t.putEntry id i raw = some u)
    (ht : t.rangeAt id) : u.rangeAt id := by
  rcases Tables.putEntry_eq_some h with ⟨rfl, -⟩ | ⟨rfl, -⟩ | ⟨rfl, e, v, he, hv, rfl⟩ | ⟨rfl, e, he, rfl⟩ | ⟨rfl, -⟩ |
    ⟨rfl, e, v, he, hv, rfl⟩ | ⟨rfl, e, v, he, hv, rfl⟩ | ⟨rfl, e, v, he, hv, rfl⟩ | ⟨rfl, e, v, he, hv, rfl⟩ | ⟨rfl, e, v, he, hv, rfl⟩ |
    ⟨rfl, e, he, rfl⟩
  · trivial
  · trivial
  · exact putAt_forall DriveClass.inRange hv (DriveClass.inRange_of_decode he) ht
  · exact Limits.inRange_of_decode he
  · trivial
  · exact putAt_forall Pattern.inRange hv (Pattern.inRange_of_decode he) ht
  · exact putAt_forall Curve.inRange hv (Curve.inRange_of_decode he) ht
  · exact putAt_forall SensorSetting.inRange hv (SensorSetting.inRange_of_decode he) ht
  · exact putAt_forall ZoneSetting.inRange hv (ZoneSetting.inRange_of_decode he) ht
  · exact putAt_forall FanSetting.inRange hv (FanSetting.inRange_of_decode he) ht
  · exact LinkSetting.inRange_of_decode he

/-- The entries with a constraint that lie outside the range from `lo` to `hi` are as they were. -/
structure Tables.KeepsOutside (lo hi : Nat) (t u : Tables) : Prop where
  bayMap : ∀ b : BayId, b.val < lo ∨ hi ≤ b.val → u.bayMap[b] = t.bayMap[b]
  classes : ∀ c : ClassId, c.val < lo ∨ hi ≤ c.val → u.classes[c] = t.classes[c]
  curves : ∀ c : CurveId, c.val < lo ∨ hi ≤ c.val → u.curves[c] = t.curves[c]
  fans : ∀ f : FanId, f.val < lo ∨ hi ≤ f.val → u.fans[f] = t.fans[f]

theorem putAt_outside {α : Type} {n : Nat} {v w : Vector α n} {i : Nat} {a : α} (h : putAt v i a = some w) (j : Fin n)
    (hj : j.val < i ∨ i + 1 ≤ j.val) : w[j] = v[j] := by
  rw [putAt_get h j, if_neg (by omega)]

theorem Tables.putEntry_outside {t u : Tables} {id : TableId} {i : Nat} {raw : List Byte} (h : t.putEntry id i raw = some u) :
    t.KeepsOutside i (i + 1) u := by
  rcases Tables.putEntry_eq_some h with ⟨rfl, _, _, v, -, -, hv, rfl⟩ | ⟨rfl, _, _, -, -, rfl⟩ | ⟨rfl, _, v, -, hv, rfl⟩ | ⟨rfl, _, -, rfl⟩ |
    ⟨rfl, _, _, -, -, rfl⟩ | ⟨rfl, _, _, -, -, rfl⟩ | ⟨rfl, _, v, -, hv, rfl⟩ | ⟨rfl, _, _, -, -, rfl⟩ | ⟨rfl, _, _, -, -, rfl⟩ |
    ⟨rfl, _, v, -, hv, rfl⟩ | ⟨rfl, _, -, rfl⟩
  · exact ⟨putAt_outside hv, fun _ _ => rfl, fun _ _ => rfl, fun _ _ => rfl⟩
  · exact ⟨fun _ _ => rfl, fun _ _ => rfl, fun _ _ => rfl, fun _ _ => rfl⟩
  · exact ⟨fun _ _ => rfl, putAt_outside hv, fun _ _ => rfl, fun _ _ => rfl⟩
  · exact ⟨fun _ _ => rfl, fun _ _ => rfl, fun _ _ => rfl, fun _ _ => rfl⟩
  · exact ⟨fun _ _ => rfl, fun _ _ => rfl, fun _ _ => rfl, fun _ _ => rfl⟩
  · exact ⟨fun _ _ => rfl, fun _ _ => rfl, fun _ _ => rfl, fun _ _ => rfl⟩
  · exact ⟨fun _ _ => rfl, fun _ _ => rfl, putAt_outside hv, fun _ _ => rfl⟩
  · exact ⟨fun _ _ => rfl, fun _ _ => rfl, fun _ _ => rfl, fun _ _ => rfl⟩
  · exact ⟨fun _ _ => rfl, fun _ _ => rfl, fun _ _ => rfl, fun _ _ => rfl⟩
  · exact ⟨fun _ _ => rfl, fun _ _ => rfl, fun _ _ => rfl, putAt_outside hv⟩
  · exact ⟨fun _ _ => rfl, fun _ _ => rfl, fun _ _ => rfl, fun _ _ => rfl⟩

/-! #### The entries of a write, in their order (step 4 of R170) -/

theorem Tables.withTable_withTable (t u w : Tables) (id : TableId) : (t.withTable id u).withTable id w = t.withTable id w := by
  cases id <;> rfl

theorem Tables.KeepsOutside.trans {lo mid hi : Nat} {t u w : Tables} (h : t.KeepsOutside lo mid u) (h' : u.KeepsOutside mid hi w)
    (hlo : lo ≤ mid) (hhi : mid ≤ hi) : t.KeepsOutside lo hi w where
  bayMap b hb := (h'.bayMap b (by omega)).trans (h.bayMap b (by omega))
  classes c hc := (h'.classes c (by omega)).trans (h.classes c (by omega))
  curves c hc := (h'.curves c (by omega)).trans (h.curves c (by omega))
  fans f hf := (h'.fans f (by omega)).trans (h.fans f (by omega))

/-- What entries that pass their checks keep. -/
theorem Tables.putEntries_ok {id : TableId} (raws : List (List Byte)) {t u : Tables} {i : Nat} (h : t.putEntries id i raws = .ok u) :
    u = t.withTable id u ∧ (t.rangeAt id → u.rangeAt id) ∧ t.KeepsOutside i (i + raws.length) u := by
  induction raws generalizing t i with
  | nil =>
    have hu : t = u := Checked.ok.inj h
    rw [hu]
    exact ⟨by cases id <;> rfl, fun ht => ht, fun _ _ => rfl, fun _ _ => rfl, fun _ _ => rfl, fun _ _ => rfl⟩
  | cons raw rest ih =>
    simp only [Tables.putEntries] at h
    cases hput : t.putEntry id i raw with
    | none =>
      rw [hput] at h
      exact Checked.noConfusion h
    | some w =>
      rw [hput] at h
      obtain ⟨hframe, hrange, hout⟩ := ih h
      refine ⟨?_, fun ht => hrange (Tables.putEntry_rangeAt hput ht), ?_⟩
      · calc u = w.withTable id u := hframe
          _ = (t.withTable id w).withTable id u := congrArg (Tables.withTable · id u) (Tables.putEntry_frame hput)
          _ = t.withTable id u := Tables.withTable_withTable t w u id
      · have hlen : i + (raw :: rest).length = i + 1 + rest.length := by rw [List.length_cons]; omega
        rw [hlen]
        exact (Tables.putEntry_outside hput).trans hout (by omega) (by omega)

/-! #### The constraints (step 5 of R170) -/

theorem sharesSlot_eq_none_iff (m : Vector (Option SlotId) 24) (a : BayId) :
    sharesSlot m a = none ↔ ∀ b : BayId, b ≠ a → m[a] ≠ none → m[b] ≠ m[a] := by
  unfold sharesSlot
  cases ha : m[a] with
  | none => simp
  | some k => simp [-Fin.getElem_fin, List.find?_eq_none]

theorem bayMapUnique_iff (m : Vector (Option SlotId) 24) :
    bayMapUnique m = true ↔ ∀ a b : BayId, b ≠ a → m[a] ≠ none → m[b] ≠ m[a] := by
  unfold bayMapUnique
  simp only [List.all_eq_true, List.mem_finRange, forall_true_left, Bool.or_eq_true, decide_eq_true_eq, Option.isNone_iff_eq_none]
  refine forall_congr' fun a => forall_congr' fun b => ⟨fun h hb ha => ?_, fun h => ?_⟩
  · exact ((h.resolve_left (Ne.symm hb)).resolve_left ha).symm
  · by_cases hab : a = b
    · exact .inl hab
    · by_cases ha : m[a] = none
      · exact .inr (.inl ha)
      · exact .inr (.inr (Ne.symm (h (Ne.symm hab) ha)))

/-- A write that passes its checks leaves the tables in range with their constraints, and no other table changed. -/
theorem Tables.checkWrite_ok {t u : Tables} {id : TableId} {first : Nat} {raws : List (List Byte)} (h : t.checkWrite id first raws = .ok u) :
    t.putEntries id first raws = .ok u ∧ ∀ i, first ≤ i → i < first + raws.length → u.constraintFailure id i = none := by
  unfold Tables.checkWrite at h
  cases hput : t.putEntries id first raws with
  | bad i =>
    rw [hput] at h
    exact Checked.noConfusion h
  | ok w =>
    rw [hput] at h
    dsimp only at h
    split at h
    · exact Checked.noConfusion h
    · next hnone =>
      have hw : w = u := Checked.ok.inj h
      rw [List.findSome?_eq_none_iff] at hnone
      rw [← hw]
      exact ⟨rfl, fun i hlo hhi => hnone i (List.mem_range'_1.mpr ⟨hlo, hhi⟩)⟩

theorem Tables.checkWrite_frame {t u : Tables} {id : TableId} {first : Nat} {raws : List (List Byte)} (h : t.checkWrite id first raws = .ok u) :
    u = t.withTable id u := (Tables.putEntries_ok raws (Tables.checkWrite_ok h).1).1

theorem Tables.constraintAt_of_write {t u : Tables} {id : TableId} {lo hi : Nat} (ht : t.constraintAt id) (hout : t.KeepsOutside lo hi u)
    (hin : ∀ i, lo ≤ i → i < hi → u.constraintFailure id i = none) : u.constraintAt id := by
  cases id
  case bayMap =>
    have hno (a : BayId) (ha : lo ≤ a.val ∧ a.val < hi) : sharesSlot u.bayMap a = none := by
      have hnone := hin a.val ha.1 ha.2
      simp only [Tables.constraintFailure, a.isLt, dif_pos, Option.map_eq_none_iff] at hnone
      exact hnone
    refine (bayMapUnique_iff _).mpr fun a b hb ha => ?_
    by_cases hain : lo ≤ a.val ∧ a.val < hi
    · exact (sharesSlot_eq_none_iff _ a).mp (hno a hain) b hb ha
    · by_cases hbin : lo ≤ b.val ∧ b.val < hi
      · intro he
        exact (sharesSlot_eq_none_iff _ b).mp (hno b hbin) a (Ne.symm hb) (he ▸ ha) he.symm
      · rw [hout.bayMap a (by omega)] at ha ⊢
        rw [hout.bayMap b (by omega)]
        exact (bayMapUnique_iff _).mp ht a b hb ha
  case classes =>
    intro c
    by_cases hc : lo ≤ c.val ∧ c.val < hi
    · have hnone := hin c.val hc.1 hc.2
      simp only [Tables.constraintFailure, c.isLt, dif_pos, ite_eq_left_iff] at hnone
      exact not_not.mp fun hno => Option.some_ne_none _ (hnone hno)
    · rw [hout.classes c (by omega)]
      exact ht c
  case curves =>
    intro c
    by_cases hc : lo ≤ c.val ∧ c.val < hi
    · have hnone := hin c.val hc.1 hc.2
      simp only [Tables.constraintFailure, c.isLt, dif_pos, ite_eq_left_iff] at hnone
      exact not_not.mp fun hno => Option.some_ne_none _ (hnone hno)
    · rw [hout.curves c (by omega)]
      exact ht c
  case fans =>
    intro f
    by_cases hf : lo ≤ f.val ∧ f.val < hi
    · have hnone := hin f.val hf.1 hf.2
      simp only [Tables.constraintFailure, f.isLt, dif_pos, ite_eq_left_iff] at hnone
      exact not_not.mp fun hno => Option.some_ne_none _ (hnone hno)
    · rw [hout.fans f (by omega)]
      exact ht f
  all_goals trivial

theorem Tables.wf_of_checkWrite {t u : Tables} {id : TableId} {first : Nat} {raws : List (List Byte)} (h : t.checkWrite id first raws = .ok u)
    (ht : t.wf = true) : u.wf = true := by
  obtain ⟨hput, hin⟩ := Tables.checkWrite_ok h
  obtain ⟨hframe, hrange, hout⟩ := Tables.putEntries_ok raws hput
  have hat := (t.wf_iff_at.mp ht) id
  rw [hframe]
  refine Tables.wf_withTable ht ?_
  rw [← hframe]
  exact ⟨hrange hat.1, Tables.constraintAt_of_write hat.2 hout hin⟩

/-! #### The tables of a load (R184, R185) -/

theorem defaultTables_wf : defaultTables.wf = true := by
  exact reset_powerSound.1

theorem Loading.wf_block {l : Loading} (h : l.tables.wf = true) (b : Block) : (l.block b).tables.wf = true := by
  unfold Loading.block
  split
  · exact h
  · split
    · next t ht =>
      split at ht
      · exact Tables.wf_of_checkWrite ht h
      · exact Checked.noConfusion ht
    · rw [Tables.toDefault_eq]
      have hdefault := defaultTables.wf_iff_at.mp defaultTables_wf b.id
      exact Tables.wf_withTable h (by cases hid : b.id <;> rw [hid] at hdefault <;> exact hdefault)

theorem loadTables_wf (mf : Bool) (m : Memory) : (loadTables mf m).1.wf = true := by
  unfold loadTables
  split
  · exact defaultTables_wf
  · next bs _ =>
    have hfold (bs : List Block) (l : Loading) (h : l.tables.wf = true) : (bs.foldl Loading.block l).tables.wf = true := by
      induction bs generalizing l with
      | nil => exact h
      | cons b bs ih => exact ih _ (Loading.wf_block h b)
    exact hfold bs _ defaultTables_wf

end Sys2Proof.Machine

/-! ### The requests, and every command, as runs of changes -/

namespace Sys2Proof.Machine

open Safety

variable {s t : State} {g k : Bool}

/-- A run in a part that holds no RESTART leaves no quiesce to report. -/
theorem Run.idle (h : Run s g k t) (hm : t.mru.state = .idle) : Run s g false t := h.settled fun hw => hw.1 hm

/-! #### Temperature reports and line sets (R61, R125) -/

theorem driveSound_clear : DriveSound Drive.clear :=
  ⟨fun _ => rfl, fun he => DriveState.noConfusion he, iff_of_false (fun he => Bool.noConfusion he) fun he => DriveState.noConfusion he,
    fun _ he => absurd he (Option.some_ne_none _).symm⟩

theorem driveSound_reported (v now : Nat) : DriveSound { state := .valid, value := some (min 125 v), reportTime := some now } :=
  ⟨fun he => DriveState.noConfusion he, fun _ => rfl, iff_of_true rfl rfl, fun _ he => by cases he; exact min_le_left _ _⟩

theorem Run.applyPair (h : Run s false k t) (pair : Byte × Byte) : Run s false k (t.applyPair pair) := by
  unfold State.applyPair
  split
  · exact h
  · split
    · next hb =>
      split
      · exact h.calm (.drive _ _ (fun _ => driveSound_clear) fun _ => .inl hb)
      · exact h.calm (.drive _ _ (fun _ => driveSound_reported _ _) fun _ => .inl hb)
    · exact h

theorem Run.applyReport (h : Run s false k t) (pairs : List (Byte × Byte)) : Run s false k (t.applyReport pairs) := by
  unfold State.applyReport
  induction pairs generalizing t with
  | nil => exact h
  | cons pair pairs ih => exact ih (h.applyPair pair)

theorem State.handAll_liu (s : State) (r : Request) : (s.handAll r).liu = s.liu := by
  have hpair (t : State) (pair : Byte × Byte) : (t.applyPair pair).liu = t.liu := by
    unfold State.applyPair
    split
    · rfl
    · split
      · split <;> rfl
      · rfl
  have hreport (pairs : List (Byte × Byte)) (t : State) : (t.applyReport pairs).liu = t.liu := by
    unfold State.applyReport
    induction pairs generalizing t with
    | nil => rfl
    | cons pair pairs ih => exact (ih _).trans (hpair t pair)
  unfold State.handAll
  split
  · split
    · exact hreport _ _
    · rfl
  · rfl

theorem Run.handAll (h : Run s false k t) (r : Request) : Run s false k (t.handAll r) := by
  unfold State.handAll
  split
  · split
    · exact h.applyReport _
    · exact h
  · exact h

theorem lineSound_set {l : Line} (h : LineSound l) (manual : Option Bool) : LineSound (l.set manual) := ⟨rfl, h.2⟩

/-- The lines of the bays change soundly, and neither the clock nor the link-lost mark. -/
theorem lightsSound_of_lines {s : State} {len : Len} (hc : len.clock = s.len.clock) (hm : len.linkLost = s.len.linkLost)
    (hl : ∀ b : BayId, LineSound len.lineA[b] ∧ LineSound len.lineB[b]) (hs : LightsSound s) : LightsSound { s with len := len } := by
  obtain ⟨-, hclock, hlost⟩ := hs
  exact ⟨hl, by rw [hc]; exact hclock, fun he => hm.trans (hlost he)⟩

theorem Run.setLines (h : Run s false k t) (bays : BitVec 24) (a b : Bool) (manual : Option Bool) : Run s false k (t.setLines bays a b manual) := by
  refine h.calm (.lights _ t.tb.nextLight (fun hs => lightsSound_of_lines rfl rfl (fun x => ?_) hs) Iff.rfl)
  obtain ⟨ha, hb⟩ := hs.1 x
  simp only [get_ofFn]
  constructor <;> split
  · exact lineSound_set ha manual
  · exact ha
  · exact lineSound_set hb manual
  · exact hb

/-! #### Bay actions (R23, R24) -/

theorem State.act_frame (s : State) (b : BayId) (a : BayAction) : PowerFrame s (s.act b a).1 := by
  cases a
  case powerOn =>
    simp only [State.act, State.actPowerOn]
    split
    · exact ((State.enterQueued_frame s b).trans (State.consider_frame _)).power
    · exact ((State.enterQueued_frame s b).trans (State.consider_frame _)).power
    all_goals rfl
  case powerOff =>
    simp only [State.act, State.actPowerOff]
    split
    · rfl
    · rfl
    · exact (s.enterRemoving_frame b false).trans (State.consider_frame _).power
    · exact (s.enterRemoving_frame b false).trans (State.consider_frame _).power
    all_goals rfl
  case clearLockout =>
    simp only [State.act, State.actClearLockout]
    split <;> rfl
  all_goals rfl

theorem PowerFrame.mru_state {s t : State} (h : PowerFrame s t) : t.mru.state = s.mru.state := by
  unfold PowerFrame at h
  rw [h]

/-- A record that keeps all but its flag of a shed, its identify flag and its marks. -/
theorem baySound_flags {r r' : BayRecord} (hframe : r' = { r with shedParked := r'.shedParked, identify := r'.identify, marks := r'.marks })
    (hshed : r'.shedParked = true → r.shedParked = true) (h : BaySound r) : BaySound r' := by
  obtain ⟨h1, h2, h3, h4, h5, h6, h7, h8, h9⟩ := h
  rw [hframe]
  exact ⟨h1, h2, h3, h4, h5, h6, h7, fun he => h8 (hshed he), h9⟩

theorem Run.flags (h : Run s false k t) {b : BayId} {r : BayRecord}
    (hframe : r = { t.bays[b] with shedParked := r.shedParked, identify := r.identify, marks := r.marks })
    (hshed : r.shedParked = true → t.bays[b].shedParked = true) : Run s false k (t.setBay b r) :=
  h.keepRecord (.of_state (by rw [hframe]) (by rw [hframe]) (by rw [hframe]) (baySound_flags hframe hshed)) fun hm => by rw [hframe]; exact hm

theorem Run.actPowerOn (h : Run s false false t) (b : BayId) : ∃ g, Run s g false (t.actPowerOn b).1 := by
  unfold State.actPowerOn
  split
  · next hb => exact ⟨_, (h.calm (.join b (by rw [hb]; rfl) (by rw [hb]; decide) (by rw [hb]; decide))).consider⟩
  · next hb => exact ⟨_, (h.calm (.join b (by rw [hb]; rfl) (by rw [hb]; decide) (by rw [hb]; decide))).consider⟩
  all_goals exact ⟨_, h⟩

theorem Run.actPowerOff (h : Run s false false t) (b : BayId) : ∃ g k, Run s g k (t.actPowerOff b).1 := by
  unfold State.actPowerOff
  split
  · next hb => exact ⟨_, _, h.enterParked (by rw [hb]; decide)⟩
  · next hb =>
    refine ⟨_, _, (h.stir (.leave b { t.bays[b] with state := .parked, drainDeadline := none, backoffDeadline := none }
      (by rw [hb]; rfl) rfl (fun he => BayState.noConfusion he) (baySound_parked (by rw [hb]; rfl)))).raise .bayState⟩
  · next hb => exact ⟨_, _, (h.enterRemoving (by rw [hb]; rfl) false).consider⟩
  · next hb => exact ⟨_, _, (h.enterRemoving (by rw [hb]; rfl) false).consider⟩
  · exact ⟨_, _, h.flags rfl fun he => Bool.noConfusion he⟩
  · exact ⟨_, _, h.flags rfl fun he => Bool.noConfusion he⟩
  · next hb => exact ⟨_, _, h.enterParked (by rw [hb]; decide)⟩
  all_goals exact ⟨_, _, h⟩

theorem Run.act (h : Run s false false t) (b : BayId) (a : BayAction) : ∃ g k, Run s g k (t.act b a).1 := by
  cases a
  case powerOn =>
    obtain ⟨g, hg⟩ := h.actPowerOn b
    exact ⟨g, _, hg⟩
  case powerOff => exact h.actPowerOff b
  case clearLockout =>
    simp only [State.act, State.actClearLockout]
    split
    · next hb => exact ⟨_, _, h.moveBay (by rw [hb]; decide) (by decide) 0 fun _ => Nat.zero_le _⟩
    · exact ⟨_, _, h⟩
  all_goals exact ⟨_, _, h.flags rfl fun he => he⟩

/-! #### Table writes (R170) -/

theorem Fan.onWrite_same (f : Fan) (n now : Nat) : f.onWrite n n now = f := if_pos rfl

theorem Run.tables (h : Run s false k t) {u : Tables} (hwf : t.tables.wf = true → u.wf = true)
    (hb : BudgetsSound t → BudgetsSound { t with tables := u }) (hf : u.fans = t.tables.fans) : Run s false k { t with tables := u } := by
  have hrun := h.calm (.tables u hwf hb)
  have hfans : (Vector.ofFn fun f : FanId => (t.fans[f]).onWrite t.tables.fans[f].pwmFrequency u.fans[f].pwmFrequency t.now) = t.fans := by
    refine vector_ext fun f => ?_
    rw [get_ofFn, hf, Fan.onWrite_same]
  rw [hfans] at hrun
  exact hrun

theorem Run.foldl_shedOwed (zs : List ZoneId) (h : Run s false true t) : Run s false true (zs.foldl State.shedOwed t) := by
  induction zs generalizing t with
  | nil => exact h
  | cons z zs ih => exact ih (h.shedOwed z)

theorem Run.takeUp (h : Run s false k t) {id : TableId} {u : Tables} (first count : Nat) (hframe : u = t.tables.withTable id u)
    (hwf : t.tables.wf = true → u.wf = true) (hb : BudgetsSound t → BudgetsSound { t with tables := u }) :
    ∃ g k, Run s g k (State.takeUp { t with tables := u } id first count t.tables) := by
  have htables (hid : id ≠ .fans) : Run s false k { t with tables := u } :=
    h.tables hwf hb (by rw [hframe, Tables.withTable_fans _ _ hid])
  cases id
  case bayMap =>
    exact ⟨_, _, (htables (by decide)).free t.inputs t.therm _ t.freeCount t.mru.attention⟩
  case baySettings =>
    have hclasses := (htables (by decide)).calm (.classes fun b => u.baySettings[b].cls)
    have hjoined := hclasses.enterQueuedAll (State.movedOut _ t.tables.baySettings) fun b hmoved => by
      simp only [State.movedOut, Bool.and_eq_true, decide_eq_true_eq] at hmoved
      rw [hmoved.1.1.1]
      decide
    exact ⟨_, _, (hjoined.stirred.foldl_shedOwed _).consider⟩
  case classes => exact ⟨_, _, (htables (by decide)).consider⟩
  case limits => exact ⟨_, _, (htables (by decide)).consider⟩
  case patterns => exact ⟨_, _, (htables (by decide)).calm (.lights _ t.tb.nextLight (fun hs => hs) Iff.rfl)⟩
  case fans => exact ⟨_, _, h.calm (.tables u hwf hb)⟩
  all_goals exact ⟨_, _, htables (by decide)⟩

theorem State.enterQueuedAll_mru (s : State) (p : BayId → Bool) : (s.enterQueuedAll p).mru = s.mru := by
  rw [s.enterQueuedAll_eq]

theorem State.takeUp_mru_state (s : State) (id : TableId) (first count : Nat) (old : Tables) :
    (s.takeUp id first count old).mru.state = s.mru.state := by
  cases id
  case baySettings =>
    have hfold (zs : List ZoneId) (t : State) : (zs.foldl State.shedOwed t).mru.state = t.mru.state := by
      induction zs generalizing t with
      | nil => rfl
      | cons z zs ih => exact (ih _).trans (t.shedOwed_frame z).mru_state
    simp only [State.takeUp, State.consider_mru, hfold, State.enterQueuedAll_mru]
  case classes => simp only [State.takeUp, State.consider_mru]
  case limits => simp only [State.takeUp, State.consider_mru]
  all_goals rfl

theorem Limits.overCommitted_iff (l : Limits) (p : Psq) : l.overCommitted p = true ↔ BudgetBelow l p := by
  simp only [Limits.overCommitted, Bool.or_eq_true, decide_eq_true_eq, List.any_eq_true, List.mem_finRange, true_and, or_assoc]

theorem Run.writeTable (h : Run s false k t) (id : TableId) (first count : Nat) (bytes : List Byte) :
    (∃ g k, Run s g k (t.writeTable id first count bytes).1) ∧ (t.writeTable id first count bytes).1.mru.state = t.mru.state := by
  unfold State.writeTable
  split
  · next raws _ =>
    split
    · exact ⟨⟨_, _, h⟩, rfl⟩
    · next u hw =>
      split
      · exact ⟨⟨_, _, h⟩, rfl⟩
      · next hover =>
        refine ⟨h.takeUp first count (Tables.checkWrite_frame hw) (Tables.wf_of_checkWrite hw) fun hs => ?_, State.takeUp_mru_state _ _ _ _ _⟩
        by_cases hid : id = .limits
        · have hnot : ¬ BudgetBelow u.limits t.psq := fun hb => hover (by
            rw [Bool.and_eq_true, decide_eq_true_eq]
            exact ⟨hid, (Limits.overCommitted_iff _ _).mpr hb⟩)
          push Not at hnot
          exact hnot
        · have hlimits : u.limits = t.tables.limits := by rw [Tables.checkWrite_frame hw, Tables.withTable_limits _ _ hid]
          change t.psq.committed12 ≤ u.limits.rail12 ∧ t.psq.committed5 ≤ u.limits.rail5 ∧ ∀ g : GroupId, t.psq.branch[g] ≤ u.limits.branch[g]
          rw [hlimits]
          exact hs
  · exact ⟨⟨_, _, h⟩, rfl⟩

/-! #### A request served (R167, R168) -/

theorem Run.serve (h : Run s false false t) (hr : t.phase = .running) (hm : t.mru.state = .idle) (tag : Byte) (r : Request) :
    ∃ g, Run s g false (t.serve tag r) := by
  cases r
  case invalid status => exact ⟨_, h.reply tag status []⟩
  case tableRead id first count => exact ⟨_, h.reply tag _ _⟩
  case tableWrite id first count bytes =>
    obtain ⟨⟨g, k, hrun⟩, hstate⟩ := h.writeTable id first count bytes
    exact ⟨g, (hrun.idle (hstate.trans hm)).reply tag _ _⟩
  case bayAction b a =>
    obtain ⟨g, k, hrun⟩ := h.act b a
    exact ⟨g, (hrun.idle ((t.act_frame b a).mru_state.trans hm)).reply tag _ _⟩
  case temperatureReport pairs => exact ⟨_, (h.applyReport pairs).reply tag _ _⟩
  case statusRead sel =>
    refine ⟨_, Run.reply (g := false) ?_ tag .done (t.record sel)⟩
    unfold State.readFree
    split
    · exact h.free t.inputs t.therm t.smap (t.freeCount + 1) t.mru.attention
    · exact h
  case attentionClear kinds => exact ⟨_, (h.attention _).reply tag _ _⟩
  case lineSet bays a b manual => exact ⟨_, (h.setLines bays a b manual).reply tag _ _⟩
  case restart form =>
    cases form
    · exact ⟨_, h.finishRestart tag (by rw [hm]; rfl) (.inl hr)⟩
    · exact ⟨_, (h.stir (.quiesce tag hr hm)).reportQuiesce⟩
  case configSave =>
    have hsave := controlSound_of_save t { t.cmp with state := .saving (saveWrites t.tables), waitStart := none } true (fun _ => rfl) (.inr hr)
      (fun he => CmpState.noConfusion he) (fun he => by simp [saveWrites] at he) (fun he => Bool.noConfusion he) rfl
    exact ⟨_, (h.calm (.save _ true hsave fun hwf => hwf)).reply tag _ _⟩

theorem Run.hand (h : Run s false false t) (tag : Byte) (kind : RequestKind) (r : Request) : ∃ g, Run s g false (t.hand tag kind r) := by
  rcases t.hand_cases tag kind r with ⟨-, ht⟩ | ⟨hr, hm, -, ht⟩ | ⟨-, -, ht⟩ <;> rw [ht]
  · exact ⟨_, h⟩
  · exact h.serve hr hm tag r
  · exact ⟨_, h.reply tag .busy []⟩

theorem Runs.of_hand {c : Instr} {tag : Byte} {kind : RequestKind} {r : Request} (h : exec c s = .next (s.hand tag kind r)) : Runs c s := by
  obtain ⟨g, hg⟩ := Run.nil.hand (s := s) tag kind r
  exact .intro h hg

theorem Run.routeRequest (h : Run s false false t) (target tag kind : Byte) (payload : List Byte) :
    ∃ g, Run s g false (t.routeRequest target tag kind payload) := by
  have hforward {u : State} (hu : Run s false false u) (hp : u.liu.port = .aligned) :=
    hu.link (.forward hp (.request target tag kind payload))
  unfold State.routeRequest
  dsimp only
  split
  · split
    · split
      · next hp =>
        have hport : (t.handAll (decodeRequest (RequestKind.ofByte kind) payload)).liu.port = .aligned := by rw [State.handAll_liu, hp]
        exact ⟨_, hforward (h.handAll _) hport⟩
      · exact ⟨_, h.handAll _⟩
    · exact ⟨_, h⟩
  · split
    · exact ⟨_, h⟩
    · split
      · exact h.hand tag _ _
      · split
        · split
          · next hp => exact ⟨_, hforward h hp⟩
          · exact ⟨_, h.reply tag .unreachable []⟩
        · exact ⟨_, h⟩

theorem runs_upstreamRequest (target tag kind : Byte) (payload : List Byte) (s : State) : Runs (.upstreamRequest target tag kind payload) s := by
  by_cases hl : s.liu.link = .aligned ∨ s.liu.link = .silent
  · obtain ⟨g, hg⟩ := (Run.nil (s := s)).acceptFrame.routeRequest target tag kind payload
    exact .intro (exec_upstreamRequest_taken hl target tag kind payload) hg.resumeDown
  · exact .intro (exec_frame_not_taken hl 0 (Vector.replicate 128 0) target tag kind payload _ (by simp)) Run.nil.acceptFrame

theorem runs_temperatureReport (toAll : Bool) (tag : Byte) (pairs : List (Byte × Byte)) (s : State) : Runs (.temperatureReport toAll tag pairs) s := by
  cases toAll
  · exact .of_hand rfl
  · exact .intro rfl (Run.nil.handAll _)

theorem runs_quiesceLimit (s : State) : Runs .quiesceLimit s := by
  change ∃ t g, execQuiesceLimit s = .next t ∧ _
  unfold execQuiesceLimit
  split
  · next tag taken hm =>
    split
    · exact ⟨_, _, rfl, Run.nil.finishRestart tag (by rw [hm]; rfl) (.inr (by rw [hm]; exact fun he => MruState.noConfusion he))⟩
    · exact ⟨_, _, rfl, .nil⟩
  · exact ⟨_, _, rfl, .nil⟩

/-! #### Every command -/

/-- Every command completes by the changes of a run. -/
theorem exec_runs (c : Instr) (s : State) : Runs c s := by
  cases c with
  | powerOnReset => exact runs_powerOnReset s
  | controllerReset => exact runs_controllerReset s
  | rstnRelease => exact runs_rstnRelease s
  | loadCompletion mf => exact runs_loadCompletion mf s
  | qualifiedInsertion b => exact runs_qualifiedInsertion b s
  | settlingBounce b => exact runs_settlingBounce b s
  | insertionDebounceExpiry b => exact runs_insertionDebounceExpiry b s
  | qualifiedRemoval b => exact runs_qualifiedRemoval b s
  | qualifiedFltAssertion b => exact runs_qualifiedFltAssertion b s
  | qualifiedPgDeassertion b => exact runs_qualifiedPgDeassertion b s
  | qualifiedPgAssertion b => exact runs_qualifiedPgAssertion b s
  | pgDeadline b => exact runs_pgDeadline b s
  | rampDeadline b => exact runs_rampDeadline b s
  | drainExpiry b => exact runs_drainExpiry b s
  | backoffExpiry b => exact runs_backoffExpiry b s
  | staggerExpiry => exact runs_staggerExpiry s
  | shedDelayReached z => exact runs_shedDelayReached z s
  | shedIntervalReached z => exact runs_shedIntervalReached z s
  | controlPeriodEnd => exact runs_controlPeriodEnd s
  | fanGraceExpiry f => exact runs_fanGraceExpiry f s
  | tachEdge f => exact runs_tachEdge f s
  | sensorConversion k reading => exact runs_sensorConversion k reading s
  | driveAgeExpiry b => exact runs_driveAgeExpiry b s
  | activityStretchExpiry b => exact runs_activityStretchExpiry b s
  | lightTick => exact runs_lightTick s
  | trainingWord kind hop => exact runs_trainingWord kind hop s
  | trainingInterrupted => exact runs_trainingInterrupted s
  | upstreamBadFrame => exact runs_upstreamBadFrame s
  | upstreamSweep n slots => exact runs_upstreamSweep n slots s
  | upstreamRequest target tag kind payload => exact runs_upstreamRequest target tag kind payload s
  | upstreamFill => exact runs_upstreamFill s
  | silenceTimeout => exact runs_silenceTimeout s
  | autonomyTimeout => exact runs_autonomyTimeout s
  | lostLatchSet => exact runs_lostLatchSet s
  | probeAnswer kind hop => exact runs_probeAnswer kind hop s
  | probeTimeout => exact runs_probeTimeout s
  | probeRetry => exact runs_probeRetry s
  | returnWatchTimeout => exact runs_returnWatchTimeout s
  | downstreamReturn n a o slots => exact runs_downstreamReturn n a o slots s
  | downstreamReply source tag status payload => exact runs_downstreamReply source tag status payload s
  | downstreamOtherFrame => exact runs_downstreamOtherFrame s
  | downstreamBadFrame => exact .same rfl
  | outstandingDeadline => exact runs_outstandingDeadline s
  | returnLaneFrameEnd => exact runs_returnLaneFrameEnd s
  | downstreamLaneFrameEnd => exact runs_downstreamLaneFrameEnd s
  | temperatureReport toAll tag pairs => exact runs_temperatureReport toAll tag pairs s
  | quiesceLimit => exact runs_quiesceLimit s
  | saveWriteAcknowledged => exact runs_saveWriteAcknowledged s
  | saveFailed => exact runs_saveFailed s
  | rstnPulseDuringPowerOnLoad => exact runs_rstnPulseDuringPowerOnLoad s
  | qualifiedFltDeassertion b => exact runs_qualifiedFltDeassertion b s
  | pwmCycleEnd f => exact runs_pwmCycleEnd f s
  | tableRead | tableWrite | powerOn | powerOff | clearLockout | identifyOn | identifyOff | markSet | markClear | statusReadSummary
  | statusReadBays | statusReadSources | statusReadFans | statusReadZones | statusReadLines | attentionClear | lineSetManual | lineSetEngine
  | restartImmediate | restartQuiesced | configSave | unknownKind => exact .of_hand rfl

end Sys2Proof.Machine

/-! ### The time base, the memory and new power, change by change -/

namespace Sys2Proof.Machine

open Safety

variable {s t u : State} {g k : Bool}

/-! #### The part whose link is lost, field by field (R65, R113, R138) -/

theorem Lost_phase (s : State) (l : Liu) : (Lost s l).phase = s.phase := by simp only [Lost]
theorem Lost_rstn (s : State) (l : Liu) : (Lost s l).rstn = s.rstn := by simp only [Lost]
theorem Lost_tb (s : State) (l : Liu) : (Lost s l).tb = s.tb := by simp only [Lost]
theorem Lost_tables (s : State) (l : Liu) : (Lost s l).tables = s.tables := by simp only [Lost]
theorem Lost_bays (s : State) (l : Liu) : (Lost s l).bays = s.bays := by simp only [Lost]
theorem Lost_inputs (s : State) (l : Liu) : (Lost s l).inputs = s.inputs := by simp only [Lost]
theorem Lost_psq (s : State) (l : Liu) : (Lost s l).psq = s.psq := by simp only [Lost]
theorem Lost_sensors (s : State) (l : Liu) : (Lost s l).sensors = s.sensors := by simp only [Lost]
theorem Lost_therm (s : State) (l : Liu) : (Lost s l).therm = s.therm := by simp only [Lost]
theorem Lost_converted (s : State) (l : Liu) : (Lost s l).converted = s.converted := by simp only [Lost]
theorem Lost_zones (s : State) (l : Liu) : (Lost s l).zones = s.zones := by simp only [Lost]
theorem Lost_fans (s : State) (l : Liu) : (Lost s l).fans = s.fans := by simp only [Lost]
theorem Lost_cmp (s : State) (l : Liu) : (Lost s l).cmp = s.cmp := by simp only [Lost]
theorem Lost_freeCount (s : State) (l : Liu) : (Lost s l).freeCount = s.freeCount := by simp only [Lost]
theorem Lost_pending (s : State) (l : Liu) : (Lost s l).pending = s.pending := by simp only [Lost]
theorem Lost_liu (s : State) (l : Liu) : (Lost s l).liu = l := by simp only [Lost]
theorem Lost_len (s : State) (l : Liu) : (Lost s l).len = { s.len with linkLost := true } := by simp only [Lost]

/-! #### No command moves the time or the queue of commands (log 1) -/

/-- The time and the queue of commands stand. -/
def SameClock (s t : State) : Prop := t.tb.now = s.tb.now ∧ t.pending = s.pending

theorem SameClock.refl (s : State) : SameClock s s := ⟨rfl, rfl⟩

theorem SameClock.trans (h : SameClock s t) (h' : SameClock t u) : SameClock s u := ⟨h'.1.trans h.1, h'.2.trans h.2⟩

theorem State.install_clock (s : State) (mf : Bool) : SameClock s (s.install mf) := by
  rw [s.install_eq]
  exact ⟨rfl, rfl⟩

theorem State.controllerReset_clock (s : State) (byPin : Bool) : SameClock s (s.controllerReset byPin) :=
  ⟨by rw [State.controllerReset_tb], s.controllerReset_pending byPin⟩

theorem State.replyLost_clock (s : State) : SameClock s s.replyLost := by
  rw [s.replyLost_eq]
  split
  · exact s.controllerReset_clock false
  · exact .refl s

theorem Late.clock (h : Late s t) : SameClock s t := by
  cases h
  case reset byPin _ => exact s.controllerReset_clock byPin
  all_goals exact .refl s

theorem Calm.clock (h : Calm s t) : SameClock s t := by
  cases h
  case start mf _ =>
    refine (s.install_clock mf).trans ⟨?_, State.startPart_pending _⟩
    rw [State.startPart_tb]
    rfl
  case restart mf _ => exact (s.install_clock mf).trans ⟨rfl, rfl⟩
  case lost l _ _ => exact ⟨by rw [Lost_tb], Lost_pending s l⟩
  all_goals exact ⟨rfl, rfl⟩

theorem Stir.clock (h : Stir s t) : SameClock s t := by
  cases h <;> exact ⟨rfl, rfl⟩

theorem Grants.clock (h : Grants s t) : SameClock s t := by
  induction h with
  | none => exact .refl s
  | grant _ b _ _ ih => exact ih.trans ⟨rfl, rfl⟩

theorem Cut.clock (h : Cut s t) : SameClock s t := by
  cases h with
  | emptied l _ _ w hw => exact ((SameClock.refl s).trans hw.clock).trans w.replyLost_clock
  | lost l _ w hw => exact (SameClock.trans ⟨by rw [Lost_tb], Lost_pending s l⟩ hw.clock).trans w.replyLost_clock

theorem Run.clock (h : Run s g k t) : SameClock s t := by
  induction h with
  | nil => exact .refl s
  | weaken _ _ _ ih => exact ih
  | late _ hu ih => exact ih.trans hu.clock
  | calm _ hu ih => exact ih.trans hu.clock
  | stir _ hu ih => exact ih.trans hu.clock
  | grant _ b _ _ ih => exact ih.trans ⟨rfl, rfl⟩
  | cut _ hu ih => exact ih.trans hu.clock
  | report _ ih => exact ih
  | settled _ _ ih => exact ih

/-- Settles O3: every command is a run of changes, none of which moves the time or the queue. -/
theorem everyCommandAnswersNextState : Obligations.EveryCommandAnswersNextState := by
  intro c s
  obtain ⟨u, g, hexec, hrun⟩ := exec_runs c s
  refine ⟨⟨u, hexec⟩, fun t ht => ?_⟩
  have htu : u = t := Host.Outcome.next.inj (hexec.symm.trans ht)
  rw [← htu]
  exact hrun.clock

/-! #### The canonical form of the memory (section 10.5) -/

theorem State.install_mem (s : State) (mf : Bool) : (s.install mf).cmp.mem = s.cmp.mem := by
  rw [s.install_eq]

theorem Cmp.wf_cutOff (c : Cmp) (count : Nat) (h : Memory.wf c.mem = true) : Memory.wf (c.cutOff count) = true := by
  unfold Cmp.cutOff
  split
  · exact Memory.wf_writeLanding _ _ _ h
  · exact h

theorem State.controllerReset_memory (s : State) (byPin : Bool) (h : MemorySound s) : MemorySound (s.controllerReset byPin) := by
  unfold MemorySound
  rw [State.controllerReset_cmp]
  exact Cmp.wf_landSent _ h

theorem State.replyLost_memory (s : State) (h : MemorySound s) : MemorySound s.replyLost := by
  rw [s.replyLost_eq]
  split
  · exact s.controllerReset_memory false h
  · exact h

theorem Late.memory (h : Late s t) (hs : MemorySound s) : MemorySound t := by
  cases h
  case reset byPin _ => exact s.controllerReset_memory byPin hs
  all_goals exact hs

theorem Calm.memory (h : Calm s t) (hs : MemorySound s) : MemorySound t := by
  cases h
  case save c saving _ hm => exact hm hs
  case powerOn => exact Cmp.wf_cutOff _ _ hs
  case start mf _ =>
    unfold MemorySound
    rw [State.startPart_cmp, State.install_mem]
    exact hs
  case restart mf _ =>
    change Memory.wf (s.install mf).cmp.mem = true
    rw [State.install_mem]
    exact hs
  case lost l _ _ =>
    unfold MemorySound
    rw [Lost_cmp]
    exact hs
  all_goals exact hs

theorem Stir.memory (h : Stir s t) (hs : MemorySound s) : MemorySound t := by
  cases h <;> exact hs

theorem Grants.memory (h : Grants s t) (hs : MemorySound s) : MemorySound t := by
  induction h with
  | none => exact hs
  | grant _ b _ _ ih => exact ih

theorem Cut.memory (h : Cut s t) (hs : MemorySound s) : MemorySound t := by
  cases h with
  | emptied l _ _ w hw => exact w.replyLost_memory (hw.memory hs)
  | lost l _ w hw =>
    refine w.replyLost_memory (hw.memory ?_)
    unfold MemorySound
    rw [Lost_cmp]
    exact hs

theorem Run.memory (h : Run s g k t) (hs : MemorySound s) : MemorySound t := by
  induction h with
  | nil => exact hs
  | weaken _ _ _ ih => exact ih
  | late _ hu ih => exact hu.memory ih
  | calm _ hu ih => exact hu.memory ih
  | stir _ hu ih => exact hu.memory ih
  | grant _ b _ _ ih => exact ih
  | cut _ hu ih => exact hu.memory ih
  | report _ ih => exact ih
  | settled _ _ ih => exact ih

/-! #### New power (R40, R41) -/

/-- What the statement on new power says of a bay that has it. -/
structure Admitted (t : State) (b : BayId) : Prop where
  ramping : t.bays[b].state = .ramping
  running : t.phase = .running
  hold : t.zones[t.tables.baySettings[b].zone].hold = false
  link : t.tables.limits.autonomous = true ∨ t.linkLost = false
  quiesce : t.psq.quiescePending = false
  stagger : t.psq.stagger = some t.tb.now
  ramps : t.psq.rampingCount ≤ t.tables.limits.maxRamps
  rail12 : t.psq.committed12 ≤ t.tables.limits.rail12
  rail5 : t.psq.committed5 ≤ t.tables.limits.rail5
  branch : t.psq.branch[groupOf b] ≤ t.tables.limits.branch[groupOf b]
  lastGrant : t.bays[b].lastGrant = some t.uptime

theorem State.en_eq (s : State) (b : BayId) : s.en b = s.bays[b].state.live := rfl

/-- A change that gives no bay power. -/
def NoNewPower (s t : State) : Prop := ∀ b, t.en b = true → s.en b = true

theorem NoNewPower.of_bays (h : t.bays = s.bays) : NoNewPower s t := fun b hb => by
  rw [State.en_eq, h] at hb
  exact hb

theorem NoNewPower.trans (h : NoNewPower s t) (h' : NoNewPower t u) : NoNewPower s u := fun b hb => h b (h' b hb)

/-- One bay's record replaced by one that holds power only where it did. -/
theorem NoNewPower.of_set {b : BayId} {r : BayRecord} (h : t.bays = s.bays.set b r) (hr : r.state.live = true → s.bays[b].state.live = true) :
    NoNewPower s t := by
  intro x hx
  rw [State.en_eq, h, get_set] at hx
  split at hx
  · next he =>
    rw [State.en_eq, he]
    exact hr hx
  · exact hx

theorem State.controllerReset_powered {s : State} {byPin : Bool} {b : BayId} (h : (s.controllerReset byPin).en b = true) :
    s.bays[b].state = .powered := by
  rw [State.en_eq, State.controllerReset_bay, BayRecord.onReset_live] at h
  exact of_decide_eq_true h

theorem State.controllerReset_noNewPower (s : State) (byPin : Bool) : NoNewPower s (s.controllerReset byPin) := fun b hb => by
  rw [State.en_eq, State.controllerReset_powered hb]
  rfl

theorem State.install_bay (s : State) (mf : Bool) (b : BayId) :
    (s.install mf).bays[b] = (s.bays[b]).adoptClass (s.tablesLoaded mf).baySettings[b].cls := by
  rw [s.install_eq]
  exact get_ofFn _ _

theorem BayRecord.adoptClass_state (r : BayRecord) (c : ClassId) : (r.adoptClass c).state = r.state := by
  rw [r.adoptClass_frame]

theorem State.install_noNewPower (s : State) (mf : Bool) : NoNewPower s (s.install mf) := fun b hb => by
  rw [State.en_eq, State.install_bay, BayRecord.adoptClass_state] at hb
  exact hb

theorem Calm.noNewPower (h : Calm s t) : NoNewPower s t := by
  cases h
  case record b r hr _ => exact .of_set rfl fun he => hr.live ▸ he
  case join b _ _ _ => exact .of_set rfl fun he => Bool.noConfusion he
  case powerOn => exact fun b hb => absurd ((s.powerOnReset_en b).symm.trans hb) (by decide)
  case start mf _ =>
    refine (s.install_noNewPower mf).trans fun b hb => ?_
    rw [State.en_eq, State.startPart_bay] at hb
    split at hb
    · exact Bool.noConfusion hb
    · exact hb
  case restart mf _ => exact (s.install_noNewPower mf).trans (.of_bays rfl)
  case classes c =>
    intro b hb
    rw [State.en_eq, get_ofFn, BayRecord.adoptClass_state] at hb
    exact hb
  case lost l _ _ => exact .of_bays (Lost_bays s l)
  all_goals exact .of_bays rfl

theorem Stir.noNewPower (h : Stir s t) : NoNewPower s t := by
  cases h
  case record b r hr => exact .of_set rfl fun he => hr.live ▸ he
  case leave b r _ hr _ _ => exact .of_set rfl fun he => absurd (hr.symm.trans he) (by decide)
  case join b _ _ => exact .of_set rfl fun he => Bool.noConfusion he
  case off b r _ hr _ _ => exact .of_set rfl fun he => absurd (hr.symm.trans he) (by decide)
  case ramped b hb => exact .of_set rfl fun _ => by rw [hb]; rfl
  case quiesce => exact .of_bays rfl

theorem Late.noNewPower (h : Late s t) : NoNewPower s t := by
  cases h
  case reset byPin _ => exact s.controllerReset_noNewPower byPin
  all_goals exact .of_bays rfl

/-- What a change after a grant leaves of a bay just granted, where it leaves it its power. -/
theorem Late.admitted (h : Late s t) {b : BayId} (ht : t.en b = true) (hs : Admitted s b) : Admitted t b := by
  cases h
  case free => exact ⟨hs.ramping, hs.running, hs.hold, hs.link, hs.quiesce, hs.stagger, hs.ramps, hs.rail12, hs.rail5, hs.branch, hs.lastGrant⟩
  case link l hl =>
    refine ⟨hs.ramping, hs.running, hs.hold, hs.link.imp_right fun hlost => ?_, hs.quiesce, hs.stagger, hs.ramps, hs.rail12, hs.rail5, hs.branch,
      hs.lastGrant⟩
    rw [Bool.eq_false_iff, Ne, State.linkLost_iff_lost] at hlost ⊢
    exact fun he => hlost (hl.lost he)
  case sending tag r hr hc hn _ =>
    refine ⟨hs.ramping, hs.running, hs.hold, hs.link.imp_right fun hlost => ?_, hs.quiesce, hs.stagger, hs.ramps, hs.rail12, hs.rail5, hs.branch,
      hs.lastGrant⟩
    obtain ⟨-, -, hlink, hlatch⟩ := Liu.pushReply_restart hr hc hn
    rw [Bool.eq_false_iff, Ne, State.linkLost_iff_lost] at hlost ⊢
    unfold Liu.lost at hlost ⊢
    rw [hlink, hlatch]
    exact hlost
  case reset byPin _ => exact absurd ((State.controllerReset_powered ht).symm.trans hs.ramping) (by decide)

/-- The bay granted by a choice is within every limit, and the bays granted before it stay so. -/
theorem admitted_grant {b : BayId} (hr : t.phase = .running) (hc : t.choice = some b) {x : BayId} (hx : x = b ∨ Admitted t x) :
    Admitted (t.grant b) x := by
  obtain ⟨hmay, hfits, -⟩ := t.choice_some hc
  obtain ⟨hramps, -, hlink, hquiesce⟩ := t.mayGrant_iff.mp hmay
  obtain ⟨h12, h5, hbranch, hhold⟩ := (t.fits_iff b).mp hfits
  rw [t.grant_eq]
  have hself : (Granted t b).bays[b].state = .ramping ∧ (Granted t b).bays[b].lastGrant = some t.uptime := by
    simp only [Granted, get_set_self, and_self]
  have hset (y : GroupId) (hy : t.psq.branch[y] ≤ t.tables.limits.branch[y] ∨ y = groupOf b) :
      (Granted t b).psq.branch[y] ≤ t.tables.limits.branch[y] := by
    change (t.psq.branch.set _ _)[y] ≤ _
    rw [get_set]
    split
    · next he =>
      rw [he]
      exact hbranch
    · next he => exact hy.resolve_right he
  by_cases hxb : x = b
  · rw [hxb]
    exact ⟨hself.1, hr, hhold, hlink, hquiesce, rfl, hramps, h12, h5, hset _ (.inr rfl), hself.2⟩
  · have hadmitted := hx.resolve_left hxb
    have hother : (Granted t b).bays[x] = t.bays[x] := get_set_of_ne _ _ hxb
    exact ⟨by rw [hother]; exact hadmitted.ramping, hr, hadmitted.hold, hlink, hquiesce, rfl, hramps, h12, h5, hset _ (.inl hadmitted.branch),
      by rw [hother]; exact hadmitted.lastGrant⟩

/-- Every bay with new power is within every limit. -/
def NewPowerAdmitted (s t : State) : Prop := ∀ b, s.en b = false → t.en b = true → Admitted t b

theorem NewPowerAdmitted.of_none (h : NoNewPower s t) : NewPowerAdmitted s t := fun b hs ht => absurd (hs.symm.trans (h b ht)) (by decide)

theorem NewPowerAdmitted.grant (h : NewPowerAdmitted s t) {b : BayId} (hr : t.phase = .running) (hc : t.choice = some b) :
    NewPowerAdmitted s (t.grant b) := by
  intro x hs hx
  refine admitted_grant hr hc (or_iff_not_imp_left.mpr fun hxb => h x hs ?_)
  have hother : (t.grant b).bays[x] = t.bays[x] := get_set_of_ne _ _ hxb
  rw [State.en_eq, hother] at hx
  exact hx

theorem NewPowerAdmitted.late (h : NewPowerAdmitted s t) (hu : Late t u) : NewPowerAdmitted s u := fun b hs hb =>
  hu.admitted hb (h b hs (hu.noNewPower b hb))

theorem NewPowerAdmitted.grants (h : NewPowerAdmitted s t) (hu : Grants t u) : NewPowerAdmitted s u := by
  induction hu with
  | none => exact h
  | grant _ b hr hc ih => exact ih.grant hr hc

theorem NewPowerAdmitted.replyLost (h : NewPowerAdmitted s t) : NewPowerAdmitted s t.replyLost := by
  rw [t.replyLost_eq]
  split
  · next hs =>
    intro b hb ht
    have hp := State.controllerReset_powered ht
    have hadmitted := h b hb (by rw [State.en_eq, hp]; rfl)
    exact absurd (hp.symm.trans hadmitted.ramping) (by decide)
  · exact h

theorem NoNewPower.cut (h : NoNewPower s t) (hu : Cut t u) : NewPowerAdmitted s u := by
  cases hu with
  | emptied l _ _ w hw =>
    have hsame : NoNewPower t { t with liu := l } := .of_bays rfl
    exact ((NewPowerAdmitted.of_none (h.trans hsame)).grants hw).replyLost
  | lost l _ w hw => exact ((NewPowerAdmitted.of_none (h.trans (.of_bays (Lost_bays t l)))).grants hw).replyLost

theorem Run.newPower (h : Run s g k t) : NewPowerAdmitted s t ∧ (g = false → NoNewPower s t) := by
  induction h with
  | nil => exact ⟨.of_none fun _ hb => hb, fun _ _ hb => hb⟩
  | weaken _ hg _ ih => exact ⟨ih.1, fun h => ih.2 (Bool.eq_false_iff.mpr fun he => absurd (h.symm.trans (hg he)) (by decide))⟩
  | late _ hu ih => exact ⟨ih.1.late hu, fun h => (ih.2 h).trans hu.noNewPower⟩
  | calm _ hu ih => exact ⟨.of_none ((ih.2 rfl).trans hu.noNewPower), fun h => (ih.2 h).trans hu.noNewPower⟩
  | stir _ hu ih => exact ⟨.of_none ((ih.2 rfl).trans hu.noNewPower), fun h => (ih.2 h).trans hu.noNewPower⟩
  | grant _ b hr hc ih => exact ⟨ih.1.grant hr hc, fun h => Bool.noConfusion h⟩
  | cut _ hu ih => exact ⟨(ih.2 rfl).cut hu, fun h => Bool.noConfusion h⟩
  | report _ ih => exact ih
  | settled _ _ ih => exact ih

/-- Settles O22: of the changes a command is made of only a grant gives power, and what may follow a grant keeps what it was granted under. -/
theorem newPowerObeysAdmission : Obligations.NewPowerObeysAdmission := by
  intro c s t b hexec hs ht
  obtain ⟨u, g, hu, hrun⟩ := exec_runs c s
  have htu : u = t := Host.Outcome.next.inj (hu.symm.trans hexec)
  rw [← htu] at ht ⊢
  obtain ⟨hramping, hrunning, hhold, hlink, hquiesce, hstagger, hramps, h12, h5, hbranch, hgrant⟩ := hrun.newPower.1 b hs ht
  exact ⟨hramping, hrunning, hhold, hlink, hquiesce, hstagger, hramps, h12, h5, hbranch, hgrant⟩

end Sys2Proof.Machine

/-! ### The sums, the budgets, the bay records and the queue, change by change (chapter 2) -/

namespace Sys2Proof.Machine

open Safety

variable {s t u : State} {g k : Bool}

/-- What every step keeps of power and of the queue. -/
abbrev PowerQueueSound (s : State) : Prop := PowerSound s ∧ QueueSound s

/-! #### Changes of nothing that power depends on -/

/-- The sums, the charges and the queue stand. -/
structure SamePower (s t : State) : Prop where
  tables : t.tables = s.tables
  bays : t.bays = s.bays
  committed12 : t.psq.committed12 = s.psq.committed12
  committed5 : t.psq.committed5 = s.psq.committed5
  branch : t.psq.branch = s.psq.branch
  rampingCount : t.psq.rampingCount = s.psq.rampingCount
  queue : t.psq.queue = s.psq.queue

theorem SamePower.of_eq (ht : t.tables = s.tables) (hb : t.bays = s.bays) (hp : t.psq = s.psq) : SamePower s t :=
  ⟨ht, hb, by rw [hp], by rw [hp], by rw [hp], by rw [hp], by rw [hp]⟩

theorem SumsSound.congr (hb : t.bays = s.bays) (h12 : t.psq.committed12 = s.psq.committed12) (h5 : t.psq.committed5 = s.psq.committed5)
    (hbr : t.psq.branch = s.psq.branch) (hr : t.psq.rampingCount = s.psq.rampingCount) (h : SumsSound s) : SumsSound t := by
  unfold SumsSound
  rw [hb, h12, h5, hbr, hr]
  exact h

theorem BudgetsSound.congr (ht : t.tables.limits = s.tables.limits) (h12 : t.psq.committed12 = s.psq.committed12)
    (h5 : t.psq.committed5 = s.psq.committed5) (hbr : t.psq.branch = s.psq.branch) (h : BudgetsSound s) : BudgetsSound t := by
  unfold BudgetsSound
  rw [ht, h12, h5, hbr]
  exact h

theorem QueueSound.congr (hb : t.bays = s.bays) (hq : t.psq.queue = s.psq.queue) (h : QueueSound s) : QueueSound t := by
  unfold QueueSound
  rw [hb, hq]
  exact h

theorem SamePower.sound (h : SamePower s t) (hs : PowerQueueSound s) : PowerQueueSound t := by
  obtain ⟨⟨hwf, hbays, hsums, hbudgets⟩, hqueue⟩ := hs
  exact ⟨⟨by rw [h.tables]; exact hwf, by rw [h.bays]; exact hbays, SumsSound.congr h.bays h.committed12 h.committed5 h.branch h.rampingCount hsums,
    BudgetsSound.congr (by rw [h.tables]) h.committed12 h.committed5 h.branch hbudgets⟩, QueueSound.congr h.bays h.queue hqueue⟩

/-! #### One bay's record replaced -/

/-- A sum over the bays after one record is replaced. -/
theorem sum_set (bays : Vector BayRecord 24) (b : BayId) (r : BayRecord) (f : BayId → BayRecord → Nat) :
    (∑ x : BayId, f x (bays.set b r)[x]) + f b bays[b] = (∑ x : BayId, f x bays[x]) + f b r := by
  have hrest : ∑ x ∈ Finset.univ.erase b, f x (bays.set b r)[x] = ∑ x ∈ Finset.univ.erase b, f x bays[x] :=
    Finset.sum_congr rfl fun x hx => by rw [get_set_of_ne _ _ (Finset.ne_of_mem_erase hx)]
  rw [← Finset.add_sum_erase _ _ (Finset.mem_univ b), ← Finset.add_sum_erase _ (fun x => f x bays[x]) (Finset.mem_univ b), hrest, get_set_self]
  omega

theorem le_sum (bays : Vector BayRecord 24) (b : BayId) (f : BayId → BayRecord → Nat) : f b bays[b] ≤ ∑ x : BayId, f x bays[x] :=
  Finset.single_le_sum (f := fun x => f x bays[x]) (fun _ _ => Nat.zero_le _) (Finset.mem_univ b)

/-- The sums and the record of bay b move together. -/
structure SumsMove (s t : State) (b : BayId) (r : BayRecord) : Prop where
  bays : t.bays = s.bays.set b r
  committed12 : t.psq.committed12 + s.bays[b].charge12 = s.psq.committed12 + r.charge12
  committed5 : t.psq.committed5 + s.bays[b].charge5 = s.psq.committed5 + r.charge5
  branch : ∀ g : GroupId, t.psq.branch[g] + (if groupOf b = g then s.bays[b].charge12 else 0) =
    s.psq.branch[g] + if groupOf b = g then r.charge12 else 0
  rampingCount : t.psq.rampingCount + (if s.bays[b].state = .ramping then 1 else 0) =
    s.psq.rampingCount + if r.state = .ramping then 1 else 0

theorem SumsMove.sound {b : BayId} {r : BayRecord} (h : SumsMove s t b r) (hs : SumsSound s) : SumsSound t := by
  obtain ⟨h12, h5, hbr, hr⟩ := hs
  have hsum12 := sum_set s.bays b r fun _ x => x.charge12
  have hsum5 := sum_set s.bays b r fun _ x => x.charge5
  have hsumr := sum_set s.bays b r fun _ x => if x.state = .ramping then 1 else 0
  have hsumbr (g : GroupId) := sum_set s.bays b r fun y x => if groupOf y = g then x.charge12 else 0
  unfold SumsSound
  rw [h.bays]
  refine ⟨?_, ?_, fun g => ?_, ?_⟩
  · have := h.committed12
    omega
  · have := h.committed5
    omega
  · have := h.branch g
    have := hsumbr g
    have := hbr g
    omega
  · have := h.rampingCount
    omega

/-- The charges of a bay lie within the sums. -/
theorem charges_le (hs : SumsSound s) (b : BayId) :
    s.bays[b].charge12 ≤ s.psq.committed12 ∧ s.bays[b].charge5 ≤ s.psq.committed5 ∧ s.bays[b].charge12 ≤ s.psq.branch[groupOf b] ∧
      (s.bays[b].state = .ramping → 1 ≤ s.psq.rampingCount) := by
  obtain ⟨h12, h5, hbr, hr⟩ := hs
  have hle12 := le_sum s.bays b fun _ x => x.charge12
  have hle5 := le_sum s.bays b fun _ x => x.charge5
  have hler := le_sum s.bays b fun _ x => if x.state = .ramping then 1 else 0
  have hlebr := le_sum s.bays b fun y x => if groupOf y = groupOf b then x.charge12 else 0
  have := hbr (groupOf b)
  simp only [if_pos] at hlebr
  exact ⟨by omega, by omega, by omega, fun he => by rw [if_pos he] at hler; omega⟩

theorem baysSound_set {b : BayId} {r : BayRecord} (hb : t.bays = s.bays.set b r) (hr : BaySound s.bays[b] → BaySound r)
    (hs : ∀ x : BayId, BaySound s.bays[x]) (x : BayId) : BaySound t.bays[x] := by
  rw [hb, get_set]
  split
  · exact hr (hs b)
  · exact hs x

/-- The queue stands, where the record enters and leaves no QUEUED. -/
theorem queueSound_stays {b : BayId} {r : BayRecord} (hb : t.bays = s.bays.set b r) (hq : t.psq.queue = s.psq.queue)
    (hr : r.state = .queued ↔ s.bays[b].state = .queued) (hs : QueueSound s) : QueueSound t := by
  obtain ⟨hnodup, hmem, hsorted⟩ := hs
  unfold QueueSound
  rw [hq]
  refine ⟨hnodup, fun x => (hmem x).trans ?_, hsorted⟩
  rw [hb, get_set]
  split
  · next he => rw [he, hr]
  · rfl

/-- The bay leaves the queue with QUEUED. -/
theorem queueSound_leaves {b : BayId} {r : BayRecord} (hb : t.bays = s.bays.set b r)
    (hq : t.psq.queue = s.psq.queue.filter fun e => e.bay != b) (hr : r.state ≠ .queued) (hs : QueueSound s) : QueueSound t := by
  obtain ⟨hnodup, hmem, hsorted⟩ := hs
  unfold QueueSound
  rw [hq]
  refine ⟨hnodup.sublist (List.filter_sublist.map _), fun x => ?_, hsorted.sublist List.filter_sublist⟩
  have hin : x ∈ (s.psq.queue.filter fun e => e.bay != b).map (·.bay) ↔ x ∈ s.psq.queue.map (·.bay) ∧ x ≠ b := by
    simp only [List.mem_map, List.mem_filter, bne_iff_ne]
    constructor
    · rintro ⟨e, ⟨he, hne⟩, rfl⟩
      exact ⟨⟨e, he, rfl⟩, hne⟩
    · rintro ⟨⟨e, he, rfl⟩, hne⟩
      exact ⟨e, ⟨he, hne⟩, rfl⟩
  rw [hin, hmem x, hb, get_set]
  split
  · next he => exact ⟨fun h => absurd he h.2, fun h => absurd h hr⟩
  · next he => exact ⟨fun h => h.1, fun h => ⟨h, he⟩⟩

/-- The bay joins the queue with QUEUED (R11, R31). -/
theorem queueSound_joins {b : BayId} {r : BayRecord} {e : QueueEntry} (he : e.bay = b) (hb : t.bays = s.bays.set b r)
    (hq : t.psq.queue = insertEntry e s.psq.queue) (hr : r.state = .queued) (hnot : s.bays[b].state ≠ .queued) (hs : QueueSound s) :
    QueueSound t := by
  obtain ⟨hnodup, hmem, hsorted⟩ := hs
  unfold QueueSound
  rw [hq]
  have hperm := (insertEntry_perm e s.psq.queue).map (·.bay)
  rw [List.map_cons, he] at hperm
  refine ⟨hperm.nodup_iff.mpr (List.nodup_cons.mpr ⟨fun hin => hnot ((hmem b).mp hin), hnodup⟩), fun x => ?_, insertEntry_pairwise e _ hsorted⟩
  rw [hperm.mem_iff, List.mem_cons, hmem x, hb, get_set]
  split
  · next hx => exact ⟨fun _ => hr, fun _ => .inl hx⟩
  · next hx => exact ⟨fun h => h.resolve_left hx, .inr⟩

/-! #### The changes of bays -/

theorem powerSound_record {b : BayId} {r : BayRecord} (hr : (s.bays[b]).SameStanding r) (hs : PowerQueueSound s) : PowerQueueSound (s.setBay b r) := by
  obtain ⟨⟨hwf, hbays, hsums, hbudgets⟩, hqueue⟩ := hs
  have hmove : SumsMove s (s.setBay b r) b r :=
    ⟨rfl, by rw [hr.charge12]; rfl, by rw [hr.charge5]; rfl, fun g => by rw [hr.charge12]; rfl, by simp only [hr.ramping]; rfl⟩
  exact ⟨⟨hwf, baysSound_set rfl hr.sound hbays, hmove.sound hsums, hbudgets⟩, queueSound_stays rfl rfl hr.queued hqueue⟩

/-- What a sound record of a bay without power holds of charges. -/
theorem charges_of_not_live {r : BayRecord} (h : BaySound r) (hr : r.state.live = false) : r.charge12 = 0 ∧ r.charge5 = 0 :=
  ⟨(h.1 hr).1, (h.1 hr).2.1⟩

/-- One bay without power takes another record without power, the sums standing. -/
theorem sumsMove_dark {b : BayId} {r : BayRecord} (hb : t.bays = s.bays.set b r) (hold : BaySound s.bays[b]) (hnew : BaySound r)
    (hlive : s.bays[b].state.live = false) (hr : r.state.live = false) (h12 : t.psq.committed12 = s.psq.committed12)
    (h5 : t.psq.committed5 = s.psq.committed5) (hbr : t.psq.branch = s.psq.branch) (hramp : t.psq.rampingCount = s.psq.rampingCount) :
    SumsMove s t b r := by
  obtain ⟨ho12, ho5⟩ := charges_of_not_live hold hlive
  obtain ⟨hn12, hn5⟩ := charges_of_not_live hnew hr
  refine ⟨hb, by omega, by omega, fun g => by rw [ho12, hn12, hbr], ?_⟩
  rw [if_neg (BayState.not_live_of hlive).1, if_neg (BayState.not_live_of hr).1, hramp]

/-- A bay without power takes another record without power and leaves the queue. -/
theorem powerSound_leave {b : BayId} {r : BayRecord} (hb : s.bays[b].state.live = false) (hr : r.state.live = false) (hq : r.state ≠ .queued)
    (h : BaySound s.bays[b] → BaySound r) (ht : t.tables = s.tables) (hset : t.bays = s.bays.set b r)
    (hpsq : t.psq = { s.psq with queue := s.psq.queue.filter fun e => e.bay != b }) (hs : PowerQueueSound s) : PowerQueueSound t := by
  obtain ⟨⟨hwf, hbays, hsums, hbudgets⟩, hqueue⟩ := hs
  have hmove := sumsMove_dark hset (hbays b) (h (hbays b)) hb hr (by rw [hpsq]) (by rw [hpsq]) (by rw [hpsq]) (by rw [hpsq])
  exact ⟨⟨by rw [ht]; exact hwf, baysSound_set hset h hbays, hmove.sound hsums,
    BudgetsSound.congr (by rw [ht]) (by rw [hpsq]) (by rw [hpsq]) (by rw [hpsq]) hbudgets⟩, queueSound_leaves hset (by rw [hpsq]) hq hqueue⟩

/-- The record of a bay that enters QUEUED (R11). -/
theorem baySound_queued {r : BayRecord} (hr : r.state.live = false) (c : ClassId) (h : BaySound r) :
    BaySound { r with state := .queued, cls := c, shedParked := false, backoffDeadline := none, drainDeadline := none } := by
  obtain ⟨hcharge, -, -, hramp, hpg, -, -, -, -, -, -, hretry⟩ := h
  have hne := (BayState.not_live_of hr).1
  have h1 : r.rampDeadline = none := Option.not_isSome_iff_eq_none.mp fun he => hne (hramp.mp he)
  have h2 : r.pgDeadline = none := Option.not_isSome_iff_eq_none.mp fun he => hne (hpg he)
  have hq1 : BayState.queued ≠ .removing := fun he => BayState.noConfusion he
  have hq2 : BayState.queued ≠ .powerFault := fun he => BayState.noConfusion he
  have hs : false = true → BayState.queued = .parked := fun he => Bool.noConfusion he
  exact baySound_of_quiet rfl hq1 hq2 (hcharge hr) h1 h2 rfl rfl hs hretry

theorem Requeued_bays (s : State) (b : BayId) :
    (Requeued s b).bays = s.bays.set b { s.bays[b] with
      state := .queued, cls := s.tables.baySettings[b].cls, shedParked := false, backoffDeadline := none, drainDeadline := none } := rfl

theorem Requeued_psq (s : State) (b : BayId) :
    (Requeued s b).psq = { s.psq with queue := insertEntry { bay := b, priority := s.tables.baySettings[b].priority } s.psq.queue } := rfl

theorem powerSound_join {b : BayId} (hb : s.bays[b].state.live = false) (hq : s.bays[b].state ≠ .queued) (hs : PowerQueueSound s) :
    PowerQueueSound (Requeued s b) := by
  obtain ⟨⟨hwf, hbays, hsums, hbudgets⟩, hqueue⟩ := hs
  have hnew := baySound_queued hb s.tables.baySettings[b].cls (hbays b)
  have hset := Requeued_bays s b
  have hpsq := Requeued_psq s b
  have hmove := sumsMove_dark hset (hbays b) hnew hb rfl (by rw [hpsq]) (by rw [hpsq]) (by rw [hpsq]) (by rw [hpsq])
  have hjoins : QueueSound (Requeued s b) := queueSound_joins rfl hset (by rw [hpsq]) rfl hq hqueue
  have hstay : BudgetsSound (Requeued s b) :=
    BudgetsSound.congr (s := s) rfl (by rw [hpsq]) (by rw [hpsq]) (by rw [hpsq]) hbudgets
  exact ⟨⟨hwf, baysSound_set hset (fun _ => hnew) hbays, hmove.sound hsums, hstay⟩, hjoins⟩

/-- The sums after an exit from power (R36). -/
theorem sumsMove_off {b : BayId} {r : BayRecord} (hr : r.state.live = false) (h : BaySound r) (hs : SumsSound s) : SumsMove s (s.powerOff b r) b r := by
  obtain ⟨h12, h5⟩ := charges_of_not_live h hr
  obtain ⟨hle12, hle5, hlebr, hler⟩ := charges_le hs b
  have hpsq : (s.powerOff b r).psq = s.releasedPsq b := rfl
  refine ⟨rfl, ?_, ?_, fun g => ?_, ?_⟩ <;> rw [hpsq, s.releasedPsq_eq] <;> dsimp only
  · omega
  · omega
  · rw [get_set]
    split
    · next hg =>
      rw [hg, if_pos rfl, if_pos rfl]
      omega
    · next hg => rw [if_neg (Ne.symm hg), if_neg (Ne.symm hg)]
  · rw [if_neg (BayState.not_live_of hr).1]
    split
    · next he =>
      have := hler he
      omega
    · rfl

theorem budgetsSound_off (b : BayId) (r : BayRecord) (hs : BudgetsSound s) : BudgetsSound (s.powerOff b r) := by
  obtain ⟨hb12, hb5, hbbr⟩ := hs
  have hpsq : (s.powerOff b r).psq = s.releasedPsq b := rfl
  unfold BudgetsSound
  rw [hpsq, s.releasedPsq_eq]
  refine ⟨(Nat.sub_le _ _).trans hb12, (Nat.sub_le _ _).trans hb5, fun g => ?_⟩
  dsimp only
  rw [get_set]
  split
  · next hg =>
    rw [hg]
    exact (Nat.sub_le _ _).trans (hbbr _)
  · exact hbbr g

theorem powerSound_off {b : BayId} {r : BayRecord} (hb : s.bays[b].state.live = true) (hr : r.state.live = false) (hq : r.state ≠ .queued)
    (h : BaySound s.bays[b] → s.tables.wf = true → BaySound r) (hs : PowerQueueSound s) : PowerQueueSound (s.powerOff b r) := by
  obtain ⟨⟨hwf, hbays, hsums, hbudgets⟩, hqueue⟩ := hs
  have hnew := h (hbays b) hwf
  have hset : (s.powerOff b r).bays = s.bays.set b r := rfl
  have hsame : (s.powerOff b r).psq.queue = s.psq.queue := by
    have hpsq : (s.powerOff b r).psq = s.releasedPsq b := rfl
    rw [hpsq, s.releasedPsq_eq]
  have hnot : s.bays[b].state ≠ .queued := fun he => by
    rw [he] at hb
    exact Bool.noConfusion hb
  have hstays : QueueSound (s.powerOff b r) := queueSound_stays hset hsame (iff_of_false hq hnot) hqueue
  exact ⟨⟨hwf, baysSound_set hset (fun _ => hnew) hbays, (sumsMove_off hr hnew hsums).sound hsums, budgetsSound_off b r hbudgets⟩, hstays⟩

/-- The record of a bay whose ramp has ended (R14, R47). -/
theorem baySound_ramped {r : BayRecord} (hr : r.state = .ramping) (h : BaySound r) :
    BaySound { r with state := .powered, charge12 := r.steady12, rampDeadline := none, pgDeadline := none, retryCount := 0 } := by
  obtain ⟨hdrain, hback, hshed, -⟩ := baySound_unpowered h (by rw [hr]; rfl)
  obtain ⟨-, -, -, -, -, -, -, -, -, h5, hst, -⟩ := h
  refine ⟨fun he => Bool.noConfusion he, fun _ => rfl, fun he => BayState.noConfusion he,
    iff_of_false (fun he => Bool.noConfusion he) fun he => BayState.noConfusion he, fun he => Bool.noConfusion he, ?_, ?_,
    fun he => absurd (hshed.symm.trans he) (by decide), hst.trans (by decide), h5, hst, Nat.zero_le _⟩
  · change r.drainDeadline.isSome = true ↔ _
    rw [hdrain]
    exact iff_of_false (fun he => Bool.noConfusion he) fun he => BayState.noConfusion he
  · change r.backoffDeadline.isSome = true ↔ _
    rw [hback]
    exact iff_of_false (fun he => Bool.noConfusion he) fun he => BayState.noConfusion he

theorem powerSound_ramped {b : BayId} (hb : s.bays[b].state = .ramping) (hs : PowerQueueSound s) : PowerQueueSound (s.ramped b) := by
  obtain ⟨⟨hwf, hbays, hsums, hbudgets⟩, hqueue⟩ := hs
  obtain ⟨hle12, hle5, hlebr, hler⟩ := charges_le hsums b
  have hsteady : s.bays[b].steady12 ≤ s.bays[b].charge12 := (hbays b).2.2.1 hb
  have hramps := hler hb
  obtain ⟨hb12, hb5, hbbr⟩ := hbudgets
  have hbranch (g : GroupId) : (s.ramped b).psq.branch[g] =
      s.psq.branch[g] - if groupOf b = g then s.bays[b].charge12 - s.bays[b].steady12 else 0 := by
    change (s.psq.branch.set _ _)[g] = _
    rw [get_set]
    by_cases hg : g = groupOf b
    · rw [if_pos hg, if_pos hg.symm, hg]
    · rw [if_neg hg, if_neg (Ne.symm hg), Nat.sub_zero]
  refine ⟨⟨hwf, baysSound_set rfl (baySound_ramped hb) hbays, SumsMove.sound ⟨rfl, ?_, rfl, fun g => ?_, ?_⟩ hsums, (Nat.sub_le _ _).trans hb12, hb5,
    fun g => ?_⟩, queueSound_stays rfl rfl (iff_of_false (fun he => BayState.noConfusion he) (by rw [hb]; exact fun he => BayState.noConfusion he)) hqueue⟩
  · change s.psq.committed12 - (s.bays[b].charge12 - s.bays[b].steady12) + s.bays[b].charge12 = s.psq.committed12 + s.bays[b].steady12
    omega
  · rw [hbranch]
    split
    · next hg =>
      rw [← hg]
      dsimp only
      omega
    · rfl
  · rw [if_pos hb, if_neg fun he => BayState.noConfusion he]
    change s.psq.rampingCount - 1 + 1 = _
    omega
  · rw [hbranch]
    exact (Nat.sub_le _ _).trans (hbbr g)

/-- The record of a bay that is granted (R13). -/
theorem baySound_granted {r : BayRecord} {c : DriveClass} (hr : r.state = .queued) (hc : c.inRange = true) (hcon : c.constraint = true)
    (ramp pg grant : Nat) (h : BaySound r) :
    BaySound { r with
      state := .ramping, charge12 := c.inrush12, charge5 := c.steady5, steady12 := c.steady12, rampDeadline := some ramp
      pgDeadline := some pg, lastGrant := some grant } := by
  obtain ⟨-, -, -, hdrain, hback, hshed, hretry⟩ := quiet_of_baySound h (by rw [hr]; rfl) (by rw [hr]; decide) (by rw [hr]; decide)
  rw [DriveClass.inRange, decide_eq_true_eq] at hc
  rw [DriveClass.constraint, decide_eq_true_eq] at hcon
  obtain ⟨h12, hst, h5, -⟩ := hc
  refine ⟨fun he => Bool.noConfusion he, fun he => BayState.noConfusion he, fun _ => hcon, iff_of_true rfl rfl, fun _ => rfl, ?_, ?_, fun he => ?_, h12, h5,
    hst, hretry⟩
  · change r.drainDeadline.isSome = true ↔ _
    rw [hdrain]
    exact iff_of_false (fun he => Bool.noConfusion he) fun he => BayState.noConfusion he
  · change r.backoffDeadline.isSome = true ↔ _
    rw [hback]
    exact iff_of_false (fun he => Bool.noConfusion he) fun he => BayState.noConfusion he
  · have hp := hshed he
    rw [hr] at hp
    exact BayState.noConfusion hp

theorem powerSound_grant {b : BayId} (hc : s.choice = some b) (hs : PowerQueueSound s) : PowerQueueSound (s.grant b) := by
  obtain ⟨⟨hwf, hbays, hsums, hbudgets⟩, hqueue⟩ := hs
  obtain ⟨-, hfits, hmem⟩ := s.choice_some hc
  obtain ⟨hf12, hf5, hfbr, -⟩ := (s.fits_iff b).mp hfits
  have hqueued : s.bays[b].state = .queued := (hqueue.2.1 b).mp hmem
  have hclass := (s.tables.wf_iff.mp hwf).2.1 s.bays[b].cls
  obtain ⟨ho12, ho5⟩ := charges_of_not_live (hbays b) (by rw [hqueued]; rfl)
  rw [s.grant_eq]
  have hbranch (g : GroupId) : (Granted s b).psq.branch[g] =
      s.psq.branch[g] + if groupOf b = g then s.tables.classes[s.bays[b].cls].inrush12 else 0 := by
    change (s.psq.branch.set _ _)[g] = _
    rw [get_set]
    by_cases hg : g = groupOf b
    · rw [if_pos hg, if_pos hg.symm, hg]
    · rw [if_neg hg, if_neg (Ne.symm hg), Nat.add_zero]
  refine ⟨⟨hwf, baysSound_set rfl (baySound_granted hqueued hclass.1 hclass.2 _ _ _) hbays, SumsMove.sound ⟨rfl, ?_, ?_, fun g => ?_, ?_⟩ hsums,
    hf12, hf5, fun g => ?_⟩, queueSound_leaves rfl rfl (fun he => BayState.noConfusion he) hqueue⟩
  · rw [ho12]
    rfl
  · rw [ho5]
    rfl
  · rw [hbranch, ho12, ite_self]
    rfl
  · rw [hqueued, if_neg fun he => BayState.noConfusion he, if_pos rfl]
    rfl
  · rw [hbranch]
    split
    · next hg =>
      rw [← hg]
      exact hfbr
    · exact hbudgets.2.2 g

/-! #### The resets, the load, and the other changes -/

theorem presentOff_quiet : BayState.presentOff.live = false ∧ BayState.presentOff ≠ .removing ∧ BayState.presentOff ≠ .powerFault := by decide

theorem parked_quiet : BayState.parked.live = false ∧ BayState.parked ≠ .removing ∧ BayState.parked ≠ .powerFault := by decide

theorem settling_quiet : BayState.settling.live = false ∧ BayState.settling ≠ .removing ∧ BayState.settling ≠ .powerFault := by decide

theorem settling_idle : BayState.settling.idle := by decide

/-- The record of a bay after a controller reset (R26). -/
theorem baySound_onReset {r : BayRecord} (h : BaySound r) : BaySound r.onReset := by
  have hsound := h
  obtain ⟨hcharge, -, -, hramp, hpg, hdrain, hback, hshed, -, -, -, hretry⟩ := h
  have hno {p : Option Nat} {x : BayState} (hp : p.isSome = true → r.state = x) (hx : r.state ≠ x) : p = none :=
    Option.not_isSome_iff_eq_none.mp fun he => hx (hp he)
  rcases hr : r.state with _ | _ | _ | _ | _ | _ | _ | _ | _ | _
  case queued =>
    rw [BayRecord.onReset_eq, hr]
    exact baySound_moved (r' := { r with state := .presentOff }) (by rw [hr]; decide) presentOff_quiet rfl
      (fun _ he => BayState.noConfusion (hr.symm.trans he)) (fun he => he) hsound
  case ramping =>
    obtain ⟨hd, hb, hs, -⟩ := baySound_unpowered hsound (by rw [hr]; rfl)
    rw [BayRecord.onReset_eq, hr]
    exact baySound_of_quiet (r := { r with
        state := .presentOff, charge12 := 0, charge5 := 0, steady12 := 0, rampDeadline := none, pgDeadline := none })
      rfl presentOff_quiet.2.1 presentOff_quiet.2.2 ⟨rfl, rfl, rfl⟩ rfl rfl hd hb (fun he => absurd (hs.symm.trans he) (by decide)) hretry
  case removing =>
    rw [BayRecord.onReset_eq, hr]
    exact baySound_of_quiet (r := { r with state := .parked, drainDeadline := none }) rfl parked_quiet.2.1 parked_quiet.2.2 (hcharge (by rw [hr]; rfl))
      (hno hramp.mp (by rw [hr]; decide)) (hno hpg (by rw [hr]; decide)) rfl (hno hback.mp (by rw [hr]; decide)) (fun _ => rfl) hretry
  case powerFault =>
    rw [BayRecord.onReset_eq, hr]
    refine baySound_of_quiet (r := { r with state := .presentOff, backoffDeadline := none }) rfl presentOff_quiet.2.1 presentOff_quiet.2.2 (hcharge (by rw [hr]; rfl))
      (hno hramp.mp (by rw [hr]; decide)) (hno hpg (by rw [hr]; decide)) (hno hdrain.mp (by rw [hr]; decide)) rfl (fun he => ?_) hretry
    rcases hshed he with he | he <;> exact BayState.noConfusion (hr.symm.trans he)
  all_goals
    have hsame : r.onReset = r := by rw [BayRecord.onReset_eq, hr]
    rw [hsame]
    exact hsound

theorem BayRecord.onReset_not_queued (r : BayRecord) : r.onReset.state ≠ .queued := by
  rw [BayRecord.onReset_eq]
  rcases r.state.eq_one_of_ten with h | h | h | h | h | h | h | h | h | h <;> simp [h]

/-- Of a sound bay only POWERED keeps a charge through a controller reset. -/
theorem onReset_charges {r : BayRecord} (h : BaySound r) :
    r.onReset.charge12 = (if r.state = .powered then r.charge12 else 0) ∧ r.onReset.charge5 = if r.state = .powered then r.charge5 else 0 := by
  split
  · next hp => rw [BayRecord.onReset_powered hp]; exact ⟨rfl, rfl⟩
  · next hp => exact charges_of_not_live (baySound_onReset h) (by rw [BayRecord.onReset_live]; exact decide_eq_false hp)

theorem onReset_not_ramping (r : BayRecord) : r.onReset.state ≠ .ramping := fun he => by
  have hlive := r.onReset_live
  rw [he] at hlive
  have hp := r.onReset_state_powered.mpr (of_decide_eq_true hlive.symm)
  exact BayState.noConfusion (he.symm.trans hp)

theorem powerSound_controllerReset (byPin : Bool) (hs : PowerQueueSound s) : PowerQueueSound (s.controllerReset byPin) := by
  obtain ⟨⟨hwf, hbays, ⟨h12, h5, hbr, -⟩, hb12, hb5, hbbr⟩, -⟩ := hs
  have hbay := s.controllerReset_bay byPin
  have hpsq := s.controllerReset_psq byPin
  have htables := s.controllerReset_tables byPin
  generalize s.controllerReset byPin = t at hbay hpsq htables ⊢
  refine ⟨⟨by rw [htables]; exact hwf, fun b => by rw [hbay]; exact baySound_onReset (hbays b), ⟨?_, ?_, fun g => ?_, ?_⟩,
    ?_, ?_, fun g => ?_⟩, ?_, fun b => ?_, ?_⟩
  · rw [hpsq]
    dsimp only
    refine Finset.sum_congr rfl fun b _ => ?_
    rw [hbay, (onReset_charges (hbays b)).1]
  · rw [hpsq]
    dsimp only
    refine Finset.sum_congr rfl fun b _ => ?_
    rw [hbay, (onReset_charges (hbays b)).2]
  · rw [hpsq]
    dsimp only
    rw [get_ofFn]
    refine Finset.sum_congr rfl fun b _ => ?_
    rw [hbay, (onReset_charges (hbays b)).1]
    by_cases hg : groupOf b = g
    · simp only [hg, and_true, if_true]
    · rw [if_neg hg, if_neg fun h => hg h.2]
  · rw [hpsq]
    refine (Finset.sum_eq_zero fun b _ => ?_).symm
    rw [hbay, if_neg (onReset_not_ramping _)]
  · rw [hpsq, htables]
    dsimp only
    refine le_trans (Finset.sum_le_sum fun b _ => ?_) (h12 ▸ hb12)
    split
    · exact le_rfl
    · exact Nat.zero_le _
  · rw [hpsq, htables]
    dsimp only
    refine le_trans (Finset.sum_le_sum fun b _ => ?_) (h5 ▸ hb5)
    split
    · exact le_rfl
    · exact Nat.zero_le _
  · rw [hpsq, htables]
    dsimp only
    rw [get_ofFn]
    refine le_trans (Finset.sum_le_sum fun b _ => ?_) (hbr g ▸ hbbr g)
    by_cases hg : groupOf b = g
    · rw [if_pos hg]
      split
      · exact le_rfl
      · exact Nat.zero_le _
    · rw [if_neg hg, if_neg fun h => hg h.2]
  · rw [hpsq]
    exact List.nodup_nil
  · rw [hpsq, hbay]
    exact iff_of_false List.not_mem_nil (BayRecord.onReset_not_queued _)
  · rw [hpsq]
    exact List.Pairwise.nil

/-- Every bay takes a record of the same standing, and the sums and the queue stand. -/
theorem powerSound_records (hb : ∀ b : BayId, (s.bays[b]).SameStanding t.bays[b]) (h12 : t.psq.committed12 = s.psq.committed12)
    (h5 : t.psq.committed5 = s.psq.committed5) (hbr : t.psq.branch = s.psq.branch) (hr : t.psq.rampingCount = s.psq.rampingCount)
    (hq : t.psq.queue = s.psq.queue) (hwf : t.tables.wf = true) (hbudgets : BudgetsSound t) (hs : PowerQueueSound s) : PowerQueueSound t := by
  obtain ⟨⟨-, hbays, ⟨hs12, hs5, hsbr, hsr⟩, -⟩, hnodup, hmem, hsorted⟩ := hs
  refine ⟨⟨hwf, fun b => (hb b).sound (hbays b), ⟨?_, ?_, fun g => ?_, ?_⟩, hbudgets⟩, ?_⟩
  · rw [h12, hs12]
    exact Finset.sum_congr rfl fun b _ => (hb b).charge12.symm
  · rw [h5, hs5]
    exact Finset.sum_congr rfl fun b _ => (hb b).charge5.symm
  · rw [hbr, hsbr]
    exact Finset.sum_congr rfl fun b _ => by rw [(hb b).charge12]
  · rw [hr, hsr]
    exact Finset.sum_congr rfl fun b _ => by simp only [(hb b).ramping]
  · unfold QueueSound
    rw [hq]
    exact ⟨hnodup, fun b => (hmem b).trans (hb b).queued.symm, hsorted⟩

theorem BayRecord.adoptClass_standing (r : BayRecord) (c : ClassId) : r.SameStanding (r.adoptClass c) := by
  rw [r.adoptClass_frame]
  exact .of_state rfl rfl rfl fun h => h

theorem BayRecord.SameStanding.trans {r r' r'' : BayRecord} (h : r.SameStanding r') (h' : r'.SameStanding r'') : r.SameStanding r'' :=
  ⟨h'.live.trans h.live, h'.ramping.trans h.ramping, h'.powered.trans h.powered, h'.queued.trans h.queued, h'.charge12.trans h.charge12,
    h'.charge5.trans h.charge5, fun hs => h'.sound (h.sound hs)⟩

/-! #### The load (R185, R186) -/

/-- Limits in range stay so where a budget is raised to a charge within the limits in force (R186). -/
theorem Raised_inRange {l : Limits} {p : Psq} (hl : l.inRange = true) (h12 : p.committed12 ≤ 9999) (h5 : p.committed5 ≤ 9999)
    (hbr : ∀ g : GroupId, p.branch[g] ≤ 2000) : (Raised l p).inRange = true := by
  rw [Limits.inRange, decide_eq_true_eq] at hl ⊢
  obtain ⟨hr12, hr5, hb, hrest⟩ := hl
  refine ⟨max_le hr12 h12, max_le hr5 h5, fun g => ?_, hrest⟩
  have hget : (Raised l p).branch[g] = max l.branch[g] p.branch[g] := get_ofFn _ g
  rw [hget]
  exact max_le (hb g) (hbr g)

theorem tablesLoaded_wf (hs : PowerSound s) (mf : Bool) : (s.tablesLoaded mf).wf = true := by
  obtain ⟨hwf, -, -, h12, h5, hbr⟩ := hs
  have hlimits := Tables.limits_of_wf hwf
  rw [Limits.inRange, decide_eq_true_eq] at hlimits
  obtain ⟨hr12, hr5, hrbr, -⟩ := hlimits
  have hload := loadTables_wf mf s.cmp.mem
  have hsame : s.tablesLoaded mf = (loadTables mf s.cmp.mem).1.withTable .limits (s.tablesLoaded mf) := rfl
  rw [hsame]
  refine Tables.wf_withTable hload ⟨?_, trivial⟩
  exact Raised_inRange (Tables.limits_of_wf hload) (h12.trans hr12) (h5.trans hr5) fun g => (hbr g).trans (hrbr g)

theorem budgetsSound_raised (l : Limits) (p : Psq) :
    p.committed12 ≤ (Raised l p).rail12 ∧ p.committed5 ≤ (Raised l p).rail5 ∧ ∀ g : GroupId, p.branch[g] ≤ (Raised l p).branch[g] := by
  refine ⟨le_max_right _ _, le_max_right _ _, fun g => ?_⟩
  have hget : (Raised l p).branch[g] = max l.branch[g] p.branch[g] := get_ofFn _ g
  rw [hget]
  exact le_max_right _ _

theorem State.install_tables (s : State) (mf : Bool) : (s.install mf).tables = s.tablesLoaded mf := by rw [s.install_eq]

theorem State.install_psq (s : State) (mf : Bool) : (s.install mf).psq = s.psq := by rw [s.install_eq]

theorem powerSound_install (mf : Bool) (hs : PowerQueueSound s) : PowerQueueSound (s.install mf) := by
  have hpsq := s.install_psq mf
  refine powerSound_records (fun b => ?_) (by rw [hpsq]) (by rw [hpsq]) (by rw [hpsq]) (by rw [hpsq]) (by rw [hpsq]) ?_ ?_ hs
  · rw [s.install_bay]
    exact (s.bays[b]).adoptClass_standing _
  · rw [s.install_tables]
    exact tablesLoaded_wf hs.1 mf
  · unfold BudgetsSound
    rw [hpsq, s.install_tables]
    exact budgetsSound_raised _ _

theorem powerSound_startPart (hs : PowerQueueSound s) : PowerQueueSound s.startPart := by
  have hpsq := s.startPart_psq
  refine powerSound_records (fun b => ?_) (by rw [hpsq]) (by rw [hpsq]) (by rw [hpsq]) (by rw [hpsq]) (by rw [hpsq]) ?_ ?_ hs
  · rw [s.startPart_bay]
    split
    · next h =>
      exact .of_idle (r' := { s.bays[b] with state := .settling }) (by rw [h.2]; decide) settling_idle rfl rfl
        (baySound_moved (by rw [h.2]; decide) settling_quiet rfl (fun _ he => BayState.noConfusion (h.2.symm.trans he)) fun he => he)
    · exact .of_state rfl rfl rfl fun h => h
  · rw [s.startPart_tables]
    exact hs.1.1
  · unfold BudgetsSound
    rw [hpsq, s.startPart_tables]
    exact hs.1.2.2.2

/-! #### Every change -/

theorem Late.power (h : Late s t) (hs : PowerQueueSound s) : PowerQueueSound t := by
  cases h
  case reset byPin _ => exact powerSound_controllerReset byPin hs
  all_goals exact SamePower.sound (s := s) (.of_eq rfl rfl rfl) hs

theorem State.powerOnReset_tables (s : State) : s.powerOnReset.tables = State.reset.tables := by unfold State.powerOnReset; rfl

theorem State.powerOnReset_psq (s : State) : s.powerOnReset.psq = State.reset.psq := by unfold State.powerOnReset; rfl

theorem reset_queueSound : QueueSound State.reset := by decide

theorem Calm.power (h : Calm s t) (hs : PowerQueueSound s) : PowerQueueSound t := by
  cases h
  case record b r hr _ => exact powerSound_record hr hs
  case join b hb hq _ => exact powerSound_join hb hq hs
  case powerOn =>
    exact (SamePower.of_eq s.powerOnReset_tables s.powerOnReset_bays s.powerOnReset_psq).sound ⟨reset_powerSound, reset_queueSound⟩
  case start mf _ => exact powerSound_startPart (powerSound_install mf hs)
  case restart mf _ =>
    exact SamePower.sound (s := s.install mf) ⟨rfl, rfl, rfl, rfl, rfl, rfl, rfl⟩ (powerSound_install mf hs)
  case tables u hwf hb =>
    exact powerSound_records (s := s) (fun b => .of_state rfl rfl rfl fun h => h) rfl rfl rfl rfl rfl (hwf hs.1.1) (hb hs.1.2.2.2) hs
  case classes c =>
    obtain ⟨u, hu⟩ : ∃ u, u = { s with bays := Vector.ofFn fun b => (s.bays[b]).adoptClass (c b) } := ⟨_, rfl⟩
    have hpsq : u.psq = s.psq := by rw [hu]
    have htables : u.tables = s.tables := by rw [hu]
    have hbay (b : BayId) : (s.bays[b]).SameStanding u.bays[b] := by
      rw [hu, get_ofFn]
      exact (s.bays[b]).adoptClass_standing _
    rw [← hu]
    exact powerSound_records hbay (by rw [hpsq]) (by rw [hpsq]) (by rw [hpsq]) (by rw [hpsq]) (by rw [hpsq]) (by rw [htables]; exact hs.1.1)
      (BudgetsSound.congr (by rw [htables]) (by rw [hpsq]) (by rw [hpsq]) (by rw [hpsq]) hs.1.2.2.2) hs
  case lost l _ _ => exact (SamePower.of_eq (Lost_tables s l) (Lost_bays s l) (Lost_psq s l)).sound hs
  case period p _ _ => exact SamePower.sound (s := s) ⟨rfl, rfl, rfl, rfl, rfl, rfl, rfl⟩ hs
  case shed z r _ _ => exact SamePower.sound (s := s) ⟨rfl, rfl, rfl, rfl, rfl, rfl, rfl⟩ hs
  case stagger => exact SamePower.sound (s := s) ⟨rfl, rfl, rfl, rfl, rfl, rfl, rfl⟩ hs
  all_goals exact SamePower.sound (s := s) (.of_eq rfl rfl rfl) hs

theorem Stir.power (h : Stir s t) (hs : PowerQueueSound s) : PowerQueueSound t := by
  cases h
  case record b r hr => exact powerSound_record hr hs
  case leave b r hb hr hq h => exact powerSound_leave hb hr hq h rfl rfl rfl hs
  case join b hb hq => exact powerSound_join hb hq hs
  case off b r hb hr hq h => exact powerSound_off hb hr hq h hs
  case ramped b hb => exact powerSound_ramped hb hs
  case quiesce => exact SamePower.sound (s := s) ⟨rfl, rfl, rfl, rfl, rfl, rfl, rfl⟩ hs

theorem Grants.power (h : Grants s t) (hs : PowerQueueSound s) : PowerQueueSound t := by
  induction h with
  | none => exact hs
  | grant _ b _ hc ih => exact powerSound_grant hc ih

theorem powerSound_replyLost (hs : PowerQueueSound s) : PowerQueueSound s.replyLost := by
  rw [s.replyLost_eq]
  split
  · exact powerSound_controllerReset false hs
  · exact hs

theorem Cut.power (h : Cut s t) (hs : PowerQueueSound s) : PowerQueueSound t := by
  cases h with
  | emptied l _ _ w hw =>
    have hsame : PowerQueueSound { s with liu := l } := SamePower.sound (s := s) (.of_eq rfl rfl rfl) hs
    exact powerSound_replyLost (hw.power hsame)
  | lost l _ w hw => exact powerSound_replyLost (hw.power ((SamePower.of_eq (Lost_tables s l) (Lost_bays s l) (Lost_psq s l)).sound hs))

theorem Run.power (h : Run s g k t) (hs : PowerQueueSound s) : PowerQueueSound t := by
  induction h with
  | nil => exact hs
  | weaken _ _ _ ih => exact ih
  | late _ hu ih => exact hu.power ih
  | calm _ hu ih => exact hu.power ih
  | stir _ hu ih => exact hu.power ih
  | grant _ b _ hc ih => exact powerSound_grant hc ih
  | cut _ hu ih => exact hu.power ih
  | report _ ih => exact ih
  | settled _ _ ih => exact ih

/-! #### A step: the command at the front, or a tick -/

/-- A step is a tick, or a run of changes from the state with the front command taken from the queue. -/
theorem step_cases (h : step s = .next t) :
    (s.pending = [] ∧ t = s.tick) ∨ ∃ c rest g, s.pending = c :: rest ∧ Run (s.withPending rest) g false t := by
  unfold step at h
  cases hp : s.pending with
  | nil =>
    rw [hp] at h
    exact .inl ⟨rfl, (Host.Outcome.next.inj h).symm⟩
  | cons c rest =>
    rw [hp] at h
    obtain ⟨u, g, hu, hrun⟩ := exec_runs c (s.withPending rest)
    have htu : u = t := Host.Outcome.next.inj (hu.symm.trans h)
    exact .inr ⟨c, rest, g, rfl, htu ▸ hrun⟩

/-- What a tick changes (R1, R182). -/
theorem State.tick_frame (s : State) :
    s.tick = { s with
      tb := { s.tb with now := s.now + 1 }, cmp := s.cmp.atTick (s.now + 1), inputs := s.tick.inputs, pending := s.tick.pending } := by
  unfold State.tick
  dsimp only
  split <;> rfl

/-- Settles O57: each change of a run keeps the sums, the records and the queue together. -/
theorem stepKeepsPowerSound : Obligations.StepKeepsPowerSound := by
  intro s t hs hstep
  obtain ⟨hpower, hqueue, -⟩ := hs
  rcases step_cases hstep with ⟨-, rfl⟩ | ⟨c, rest, g, -, hrun⟩
  · rw [s.tick_frame]
    exact SamePower.sound (s := s) (.of_eq rfl rfl rfl) ⟨hpower, hqueue⟩
  · exact hrun.power (SamePower.sound (s := s) (.of_eq rfl rfl rfl) ⟨hpower, hqueue⟩)

end Sys2Proof.Machine

/-! ### The sources, the zones, the fans and the lines, change by change (chapters 3 to 6) -/

namespace Sys2Proof.Machine

open Safety

variable {s t u : State} {g k : Bool}

/-! #### What every change keeps, every run keeps -/

/-- Every kind of change keeps P, in a part whose power state and queue are sound. -/
structure Kept (P : State → Prop) : Prop where
  late {s t : State} (h : Late s t) (hp : PowerQueueSound s) (hs : P s) : P t
  calm {s t : State} (h : Calm s t) (hp : PowerQueueSound s) (hs : P s) : P t
  stir {s t : State} (h : Stir s t) (hp : PowerQueueSound s) (hs : P s) : P t
  grant {s : State} {b : BayId} (hb : s.bays[b].state = .queued) (hs : P s) : P (s.grant b)
  emptied {s : State} {l : Liu} (hl : l.lost → s.liu.lost) (hs : P s) : P { s with liu := l }
  lost {s : State} (l : Liu) (hs : P s) : P (Lost s l)

variable {P : State → Prop}

theorem queued_of_choice {b : BayId} (hc : s.choice = some b) (hp : PowerQueueSound s) : s.bays[b].state = .queued := by
  obtain ⟨-, -, hmem⟩ := s.choice_some hc
  exact (hp.2.2.1 b).mp hmem

theorem Kept.choice (h : Kept P) {b : BayId} (hc : s.choice = some b) (hp : PowerQueueSound s) (hs : P s) : P (s.grant b) :=
  h.grant (queued_of_choice hc hp) hs

theorem Kept.grants (h : Kept P) (hu : Grants s t) (hp : PowerQueueSound s) (hs : P s) : P t := by
  induction hu with
  | none => exact hs
  | grant hu b _ hc ih => exact h.choice hc (hu.power hp) ih

theorem Kept.replyLost (h : Kept P) (hp : PowerQueueSound s) (hs : P s) : P s.replyLost := by
  rw [s.replyLost_eq]
  split
  · next hm => exact h.late (.reset false (.inr (.inr fun he => by rw [he] at hm; cases hm))) hp hs
  · exact hs

theorem Kept.cut (h : Kept P) (hu : Cut s t) (hp : PowerQueueSound s) (hs : P s) : P t := by
  cases hu with
  | emptied l _ hl w hw =>
    have hsame : PowerQueueSound { s with liu := l } := SamePower.sound (s := s) (.of_eq rfl rfl rfl) hp
    exact h.replyLost (hw.power hsame) (h.grants hw hsame (h.emptied hl hs))
  | lost l _ w hw =>
    have hsame : PowerQueueSound (Lost s l) := (SamePower.of_eq (Lost_tables s l) (Lost_bays s l) (Lost_psq s l)).sound hp
    exact h.replyLost (hw.power hsame) (h.grants hw hsame (h.lost l hs))

theorem Kept.run (h : Kept P) (hrun : Run s g k t) (hp : PowerQueueSound s) (hs : P s) : P t := by
  induction hrun with
  | nil => exact hs
  | weaken _ _ _ ih => exact ih
  | late hrun hu ih => exact h.late hu (hrun.power hp) ih
  | calm hrun hu ih => exact h.calm hu (hrun.power hp) ih
  | stir hrun hu ih => exact h.stir hu (hrun.power hp) ih
  | grant hrun b _ hc ih => exact h.choice hc (hrun.power hp) ih
  | cut hrun hu ih => exact h.cut hu (hrun.power hp) ih
  | report _ ih => exact ih
  | settled _ _ ih => exact ih

/-! #### The sources (R55 to R57, R60, R63) -/

/-- The sources stand, the part runs as before, and every POWERED bay is still POWERED. -/
structure SameSources (s t : State) : Prop where
  phase : t.phase = s.phase
  drives : t.drives = s.drives
  sensors : t.sensors = s.sensors
  converted : t.converted = s.converted
  powered : ∀ b : BayId, s.bays[b].state = .powered → t.bays[b].state = .powered

theorem SameSources.of_eq (hp : t.phase = s.phase) (hd : t.drives = s.drives) (hs : t.sensors = s.sensors) (hc : t.converted = s.converted)
    (hb : t.bays = s.bays) : SameSources s t :=
  ⟨hp, hd, hs, hc, fun b h => by rw [hb]; exact h⟩

theorem SameSources.sound (h : SameSources s t) (hs : SourcesSound s) : SourcesSound t := by
  obtain ⟨hdrives, hsensors, hconv⟩ := hs
  unfold SourcesSound
  rw [h.phase, h.drives, h.sensors, h.converted]
  exact ⟨fun b => ⟨(hdrives b).1, fun he => h.powered b ((hdrives b).2 he)⟩, hsensors, hconv⟩

/-- The drive sources move; the sensors and the period stand. -/
theorem sourcesSound_drives (hp : t.phase = s.phase) (hx : t.sensors = s.sensors) (hc : t.converted = s.converted)
    (hd : ∀ b : BayId, DriveSound t.drives[b] ∧ (t.drives[b].state ≠ .absent → t.bays[b].state = .powered)) (hs : SourcesSound s) :
    SourcesSound t := by
  obtain ⟨-, hsensors, hconv⟩ := hs
  refine ⟨hd, ?_, ?_⟩
  · rw [hx, hc]
    exact hsensors
  · rw [hp, hc]
    exact hconv

/-- The conversions start afresh; the sources stand, and every POWERED bay is still POWERED. -/
theorem sourcesSound_period (hx : t.sensors = s.sensors) (hc : t.converted = 0)
    (hd : ∀ b : BayId, DriveSound t.drives[b] ∧ (t.drives[b].state ≠ .absent → t.bays[b].state = .powered)) (hs : SourcesSound s) :
    SourcesSound t := by
  obtain ⟨-, hsensors, -⟩ := hs
  refine ⟨hd, fun x => ?_, fun _ => hc⟩
  rw [hx, hc]
  exact ⟨(hsensors x).1, fun h => absurd h (by simp)⟩

theorem not_powered_of_not_live {r : BayRecord} (h : r.state.live = false) : r.state ≠ .powered := fun he => by
  rw [he] at h
  cases h

/-- A replaced record of a bay that was not POWERED, or still is. -/
theorem SameSources.of_set {b : BayId} {r : BayRecord} (hp : t.phase = s.phase) (hd : t.drives = s.drives) (hs : t.sensors = s.sensors)
    (hc : t.converted = s.converted) (hb : t.bays = s.bays.set b r) (hr : s.bays[b].state = .powered → r.state = .powered) : SameSources s t :=
  ⟨hp, hd, hs, hc, fun x h => by
    rw [hb, get_set]
    split
    · next he => exact hr (he ▸ h)
    · exact h⟩

theorem sourcesSound_controllerReset (byPin : Bool) (hs : SourcesSound s) : SourcesSound (s.controllerReset byPin) := by
  refine sourcesSound_period (s.controllerReset_sensors byPin) (s.controllerReset_converted byPin) (fun b => ?_) hs
  rw [State.controllerReset_drive, State.controllerReset_bay, BayRecord.onReset_state_powered]
  split
  · next h => exact ⟨driveSound_stale (hs.1 b).1, fun _ => h⟩
  · exact ⟨driveSound_clear, fun he => absurd rfl he⟩

theorem State.install_drives (s : State) (mf : Bool) : (s.install mf).drives = s.drives := by rw [s.install_eq]
theorem State.install_sensors (s : State) (mf : Bool) : (s.install mf).sensors = s.sensors := by rw [s.install_eq]
theorem State.install_zones (s : State) (mf : Bool) : (s.install mf).zones = s.zones := by rw [s.install_eq]
theorem State.install_fans (s : State) (mf : Bool) : (s.install mf).fans = s.fans := by rw [s.install_eq]
theorem State.install_len (s : State) (mf : Bool) : (s.install mf).len = s.len := by rw [s.install_eq]
theorem State.install_liu (s : State) (mf : Bool) : (s.install mf).liu = s.liu := by rw [s.install_eq]
theorem State.install_phase (s : State) (mf : Bool) : (s.install mf).phase = s.phase := by rw [s.install_eq]

theorem State.install_bay_state (s : State) (mf : Bool) (b : BayId) : (s.install mf).bays[b].state = s.bays[b].state := by
  rw [State.install_bay, BayRecord.adoptClass_state]

theorem Late.sources (h : Late s t) (hs : SourcesSound s) : SourcesSound t := by
  cases h
  case reset byPin _ => exact sourcesSound_controllerReset byPin hs
  all_goals exact SameSources.sound (s := s) (.of_eq rfl rfl rfl rfl rfl) hs

theorem driveSound_lost (l : Liu) (hs : SourcesSound s) (b : BayId) :
    DriveSound (Lost s l).drives[b] ∧ ((Lost s l).drives[b].state ≠ .absent → (Lost s l).bays[b].state = .powered) := by
  obtain ⟨hdrive, hpower⟩ := hs.1 b
  simp only [Lost, get_ofFn]
  split
  · next h => exact ⟨driveSound_stale hdrive, fun _ => h⟩
  · exact ⟨hdrive, hpower⟩

theorem sourcesSound_lost (l : Liu) (hs : SourcesSound s) : SourcesSound (Lost s l) :=
  sourcesSound_drives (Lost_phase s l) (Lost_sensors s l) (Lost_converted s l) (driveSound_lost l hs) hs

theorem sourcesSound_drive {b : BayId} {d : Drive} (h : DriveSound s.drives[b] → DriveSound d)
    (hp : d.state ≠ .absent → s.bays[b].state = .powered ∨ s.drives[b].state ≠ .absent) (hs : SourcesSound s) : SourcesSound (s.setDrive b d) := by
  refine sourcesSound_drives (s := s) rfl rfl rfl (fun x => ?_) hs
  change DriveSound (s.drives.set b d)[x] ∧ ((s.drives.set b d)[x].state ≠ .absent → s.bays[x].state = .powered)
  rw [get_set]
  split
  · next he =>
    subst he
    exact ⟨h (hs.1 x).1, fun he => (hp he).elim id (hs.1 x).2⟩
  · exact hs.1 x

theorem sourcesSound_sensor {k : SensorId} {x : Sensor} {reading : Int} (h : SensorSound s.sensors[k] → SensorSound x) (hx : x.state ≠ .pending)
    (hr : s.phase = .running) (hc : s.converted = k.castSucc) (hs : SourcesSound s) : SourcesSound (s.setConversion k x reading) := by
  obtain ⟨hdrives, hsensors, -⟩ := hs
  refine ⟨hdrives, fun y => ?_, fun hn => absurd hr hn⟩
  change SensorSound (s.sensors.set k x)[y] ∧ (y.castSucc < k.succ → (s.sensors.set k x)[y].state ≠ .pending)
  rw [get_set]
  split
  · next he =>
    subst he
    exact ⟨h (hsensors y).1, fun _ => hx⟩
  · next he =>
    refine ⟨(hsensors y).1, fun hlt => (hsensors y).2 ?_⟩
    rw [hc, Fin.lt_def]
    have hy : y.val ≠ k.val := fun hv => he (Fin.ext hv)
    simp only [Fin.lt_def, Fin.val_succ, Fin.val_castSucc] at hlt ⊢
    omega

theorem Calm.sources (h : Calm s t) (hs : SourcesSound s) : SourcesSound t := by
  cases h
  case drive b d h hp => exact sourcesSound_drive h hp hs
  case record b r h _ => exact SameSources.sound (s := s) (.of_set rfl rfl rfl rfl rfl h.powered.mpr) hs
  case join b hb _ _ => exact SameSources.sound (s := s) (.of_set rfl rfl rfl rfl rfl fun he => absurd he (not_powered_of_not_live hb)) hs
  case sensor k x reading h hx hr hc => exact sourcesSound_sensor h hx hr hc hs
  case period p hr _ => exact sourcesSound_period (s := s) rfl rfl hs.1 hs
  case powerOn =>
    have hreset : SourcesSound State.reset := resetIsSound.2.2.1
    refine SameSources.sound (s := State.reset) (.of_eq ?_ ?_ ?_ ?_ s.powerOnReset_bays) hreset <;> unfold State.powerOnReset <;> rfl
  case release p h =>
    obtain ⟨hdrives, hsensors, hconv⟩ := hs
    refine ⟨hdrives, hsensors, fun _ => hconv ?_⟩
    rcases h with ⟨h, -⟩ | ⟨h, -⟩ <;> rw [h] <;> exact fun he => Phase.noConfusion he
  case pulse h =>
    obtain ⟨hdrives, hsensors, hconv⟩ := hs
    exact ⟨hdrives, hsensors, fun _ => hconv (by rw [h]; exact fun he => Phase.noConfusion he)⟩
  case start mf _ =>
    refine sourcesSound_period (s := s) ((State.startPart_sensors _).trans (s.install_sensors mf)) (State.startPart_converted _) (fun b => ?_) hs
    rw [State.startPart_drives, State.install_drives, State.startPart_bay]
    refine ⟨(hs.1 b).1, fun he => ?_⟩
    have hpow := (hs.1 b).2 he
    rw [State.install_bay_state, hpow, if_neg fun h => BayState.noConfusion h.2, State.install_bay_state]
    exact hpow
  case restart mf _ =>
    refine sourcesSound_period (s := s) (s.install_sensors mf) rfl (fun b => ?_) hs
    change DriveSound (s.install mf).drives[b] ∧ ((s.install mf).drives[b].state ≠ .absent → (s.install mf).bays[b].state = .powered)
    rw [State.install_drives, State.install_bay_state]
    exact hs.1 b
  case classes c =>
    refine SameSources.sound (s := s) ⟨rfl, rfl, rfl, rfl, fun b he => ?_⟩ hs
    rw [get_ofFn, BayRecord.adoptClass_state]
    exact he
  case lost l _ _ => exact sourcesSound_lost l hs
  all_goals exact SameSources.sound (s := s) (.of_eq rfl rfl rfl rfl rfl) hs

theorem Stir.sources (h : Stir s t) (hs : SourcesSound s) : SourcesSound t := by
  cases h
  case record b r h => exact SameSources.sound (s := s) (.of_set rfl rfl rfl rfl rfl h.powered.mpr) hs
  case leave b r hb _ _ _ => exact SameSources.sound (s := s) (.of_set rfl rfl rfl rfl rfl fun he => absurd he (not_powered_of_not_live hb)) hs
  case join b hb _ => exact SameSources.sound (s := s) (.of_set rfl rfl rfl rfl rfl fun he => absurd he (not_powered_of_not_live hb)) hs
  case off b r _ _ _ _ =>
    refine sourcesSound_drives (s := s) rfl rfl rfl (fun x => ?_) hs
    change DriveSound (s.releasedDrives b)[x] ∧ ((s.releasedDrives b)[x].state ≠ .absent → (s.bays.set b r)[x].state = .powered)
    rw [State.releasedDrives]
    by_cases hx : x = b
    · subst hx
      split
      · rw [get_set_self]
        exact ⟨driveSound_clear, fun he => absurd rfl he⟩
      · next hn => exact ⟨(hs.1 x).1, fun he => absurd ((hs.1 x).2 he) hn⟩
    · rw [get_set_of_ne _ r hx]
      split
      · rw [get_set_of_ne _ _ hx]
        exact hs.1 x
      · exact hs.1 x
  case ramped b hb =>
    refine sourcesSound_drives (s := s) rfl rfl rfl (fun x => ?_) hs
    change DriveSound (s.drives.set b _)[x] ∧ ((s.drives.set b _)[x].state ≠ .absent → (s.bays.set b _)[x].state = .powered)
    by_cases hx : x = b
    · subst hx
      rw [get_set_self, get_set_self]
      exact ⟨driveSound_stale (d := Drive.clear) driveSound_clear, fun _ => rfl⟩
    · rw [get_set_of_ne _ _ hx, get_set_of_ne _ _ hx]
      exact hs.1 x
  case quiesce => exact SameSources.sound (s := s) (.of_eq rfl rfl rfl rfl rfl) hs

theorem sources_kept : Kept SourcesSound where
  late h _ hs := h.sources hs
  calm h _ hs := h.sources hs
  stir h _ hs := h.sources hs
  grant {s _} hb hs := SameSources.sound (s := s) (.of_set rfl rfl rfl rfl rfl fun he => BayState.noConfusion (hb.symm.trans he)) hs
  emptied {s _} _ hs := SameSources.sound (s := s) (.of_eq rfl rfl rfl rfl rfl) hs
  lost l hs := sourcesSound_lost l hs

end Sys2Proof.Machine

/-! ### The zones, the fans and the lines, change by change (chapters 4 to 6) -/

namespace Sys2Proof.Machine

open Safety

variable {s t u : State} {g k : Bool}

/-! #### The work of a period end on a zone (R79 to R84, R97, R98) -/

/-- A curve whose duties are in range gives a demand in range (R73, R74). -/
theorem curveValue_le {points : List CurvePoint} (hd : ∀ p ∈ points, p.duty ≤ 1000) (ho : pointsOrdered points = true) (t : Int) :
    curveValue points t ≤ 1000 := by
  induction points with
  | nil => exact Nat.zero_le _
  | cons p rest ih =>
    cases rest with
    | nil => exact hd p List.mem_cons_self
    | cons q rest =>
      obtain ⟨hpq, hrest⟩ := (Bool.and_eq_true _ _).mp ho
      obtain ⟨htemp, hduty⟩ := of_decide_eq_true hpq
      rcases le_or_gt t p.temp with h | h
      · rw [curveValue_of_le_head h]
        exact hd p List.mem_cons_self
      · rcases lt_or_ge t q.temp with hq | hq
        · rw [curveValue_between h hq]
          have hle : (q.duty - p.duty) * (t - p.temp).toNat / (q.temp - p.temp).toNat ≤ q.duty - p.duty := by
            refine Nat.div_le_of_le_mul ?_
            rw [Nat.mul_comm]
            exact Nat.mul_le_mul_right _ (by omega)
          have := hd q (List.mem_cons_of_mem _ List.mem_cons_self)
          omega
        · rw [curveValue_drop_head h hq]
          exact ih (fun x hx => hd x (List.mem_cons_of_mem _ hx)) hrest

/-- The curve of every present source is one of the tables' curves. -/
theorem State.curve_of_mem_presentSources {s : State} {z : ZoneId} {x : Int × Curve} (h : x ∈ s.presentSources z) :
    ∃ c : CurveId, x.2 = s.tables.curves[c] := by
  rcases List.mem_append.mp h with h | h
  · obtain ⟨k, -, -, _, -, rfl⟩ := mem_filterMap_if_map.mp h
    exact ⟨_, rfl⟩
  · obtain ⟨b, -, -, _, -, rfl⟩ := mem_filterMap_if_map.mp h
    exact ⟨_, rfl⟩

theorem rawDemand_le (hwf : s.tables.wf = true) (z : ZoneId) : s.rawDemand z ≤ 1000 := by
  obtain ⟨-, h | ⟨x, hx, h⟩⟩ := s.rawDemand_spec z
  · rw [h]
    exact Nat.zero_le _
  · obtain ⟨c, hc⟩ := State.curve_of_mem_presentSources hx
    obtain ⟨hrange, hcons⟩ := (s.tables.wf_iff.mp hwf).2.2.2.2.1 c
    rw [← h, hc]
    simp only [Curve.inRange, Bool.and_eq_true, List.all_eq_true, decide_eq_true_eq] at hrange
    exact curveValue_le (fun p hp => (hrange.1.1.2 p hp).2) ((Bool.and_eq_true _ _).mp hcons).1 _

/-- A shed temperature lies above the hold temperature of its curve (R73), so a source that is not clear of it is not clear of the hold temperature either. -/
theorem not_clear_of_hold {c : Curve} (hc : c.constraint = true) {t : Int} (h : clearOfThreshold t c.shed = false) :
    clearOfThreshold t c.hold = false := by
  have hord := ((Bool.and_eq_true _ _).mp hc).2
  cases hs : c.shed with
  | none => rw [hs] at h; cases h
  | some x =>
    cases hh : c.hold with
    | none => rw [hs, hh] at hord; cases hord
    | some y =>
      rw [hs] at h
      rw [hs, hh] at hord
      have h := of_decide_eq_false h
      have hord := of_decide_eq_true hord
      exact decide_eq_false (by omega)

theorem at_hold_of_at_shed {c : Curve} (hc : c.constraint = true) {t : Int} (h : atThreshold t c.shed = true) :
    atThreshold t c.hold = true := by
  have hord := ((Bool.and_eq_true _ _).mp hc).2
  cases hs : c.shed with
  | none => rw [hs] at h; cases h
  | some x =>
    cases hh : c.hold with
    | none => rw [hs, hh] at hord; cases hord
    | some y =>
      rw [hs] at h
      rw [hs, hh] at hord
      have h := of_decide_eq_true h
      have hord := of_decide_eq_true hord
      exact decide_eq_true (by omega)

theorem not_clear_of_at {t : Int} {o : Option Int} (h : atThreshold t o = true) : clearOfThreshold t o = false := by
  cases o with
  | none => cases h
  | some x =>
    have h := of_decide_eq_true h
    exact decide_eq_false (by omega)

/-- A zone that is in SHED after a period end is in HOLD (R98). -/
theorem holdNext_of_shedNext {sources : List (Int × Curve)} (hc : ∀ x ∈ sources, x.2.constraint = true) {hold shed : Bool}
    (hold_of_shed : shed = true → hold = true) (failed limit : Nat) (h : shedNext shed sources = true) :
    holdNext hold sources failed limit = true := by
  have hheld (hn : hold = true) (x : Int × Curve) (hx : x ∈ sources) (hclear : clearOfThreshold x.1 x.2.hold = false) :
      holdNext hold sources failed limit = true := by
    rw [holdNext, hn, if_pos rfl, Bool.not_eq_true', Bool.and_eq_false_iff]
    exact .inl (Bool.eq_false_iff.mpr fun hall => absurd ((List.all_eq_true.mp hall x hx).symm.trans hclear) (by decide))
  cases shed with
  | true =>
    rw [shedNext, if_pos rfl, Bool.not_eq_true', List.all_eq_false] at h
    obtain ⟨x, hx, hn⟩ := h
    exact hheld (hold_of_shed rfl) x hx (not_clear_of_hold (hc x hx) (Bool.eq_false_iff.mpr hn))
  | false =>
    rw [shedNext, if_neg Bool.false_ne_true, List.any_eq_true] at h
    obtain ⟨x, hx, hat⟩ := h
    have hat := at_hold_of_at_shed (hc x hx) hat
    cases hold with
    | true => exact hheld rfl x hx (not_clear_of_at hat)
    | false =>
      rw [holdNext, if_neg Bool.false_ne_true, Bool.or_eq_true]
      exact .inl (List.any_eq_true.mpr ⟨x, hx, hat⟩)

theorem slewed_le {zs : ZoneSetting} {output target : Nat} (ho : output ≤ 1000) (ht : target ≤ 1000) (bypass : Bool) :
    slewed zs output target bypass ≤ 1000 := by
  unfold slewed
  split
  · split
    · exact ht
    · exact (min_le_left _ _).trans ht
  · exact max_le ht ((Nat.sub_le _ _).trans ho)

theorem targetOf_le {zs : ZoneSetting} (hz : zs.inRange = true) {held floor : Nat} (hh : held ≤ 1000) (hf : floor ≤ 1000) (failed : Nat) :
    targetOf zs held floor failed ≤ 1000 := by
  rw [ZoneSetting.inRange, decide_eq_true_eq] at hz
  unfold targetOf
  dsimp only
  split
  · exact max_le (max_le hh hf) (by omega)
  · exact max_le hh hf

theorem floorOf_le {zs : ZoneSetting} (hz : zs.inRange = true) {weight : Nat} (hw : weight ≤ 1000) (f : FloorsApplied) :
    floorOf zs weight f ≤ 1000 := by
  rw [ZoneSetting.inRange, decide_eq_true_eq] at hz
  obtain ⟨-, -, -, -, -, -, hstale, hfail, hlost, -⟩ := hz
  refine max_le hw (max_le ?_ (max_le ?_ ?_)) <;> split <;> omega

theorem zoneSound_zoneWork (hwf : s.tables.wf = true) (fans : Vector Fan 6) {z : ZoneId} (h : ZoneSound s.zones[z]) :
    ZoneSound (s.zoneWork fans z) := by
  obtain ⟨hheld, hout, hshed, hsince, -⟩ := h
  obtain ⟨-, -, -, -, hcurves, -, hzones, -, -⟩ := s.tables.wf_iff.mp hwf
  have hheld' : heldDemand s.zones[z].held (s.rawDemand z) s.tables.zones[z].hysteresis ≤ 1000 := by
    unfold heldDemand
    split
    · exact rawDemand_le hwf z
    · exact hheld
  refine ⟨hheld', slewed_le hout (targetOf_le (hzones z) hheld' (floorOf_le (hzones z) (min_le_left _ _) _) _) _, ?_, ?_, ?_⟩
  · refine holdNext_of_shedNext (fun x hx => ?_) hshed _ _
    obtain ⟨c, hc⟩ := State.curve_of_mem_presentSources hx
    rw [hc]
    exact (hcurves c).2
  · change (if shedNext s.zones[z].shed (s.presentSources z) = true then (if s.zones[z].shed = true then s.zones[z].shedSince else some s.now)
      else none).isSome = true ↔ shedNext s.zones[z].shed (s.presentSources z) = true
    split
    · next hn =>
      refine iff_of_true ?_ hn
      split
      · next ho => exact hsince.mpr ho
      · rfl
    · next hn => exact iff_of_false (fun he => Bool.noConfusion he) hn
  · exact (List.length_filter_le _ _).trans (by decide)

/-! #### The work of a period end on a fan (R85, R88 to R91) -/

theorem fanSound_closeWindow {x : Fan} (c : FanSetting) (now : Nat) (h : FanSound x) : FanSound (x.closeWindow c now) := by
  have hrpm : FanSound { x with lastRpm := some (windowRpm x.pulses c.pulsesPerRev) } := by
    obtain ⟨hd, hstop, hl, hg, hp, hc, hn, -⟩ := h
    exact ⟨hd, hstop, hl, hg, hp, hc, hn, fun r hr => by cases hr; exact min_le_left _ _⟩
  have hturns {y : Fan} (hy : y.state ≠ .stopped) (hx : x.state ≠ .stopped)
      (hframe : y = { x with lastRpm := some (windowRpm x.pulses c.pulsesPerRev), state := y.state, grace := y.grace, lowCount := y.lowCount, goodCount := y.goodCount })
      (hl : y.lowCount ≤ 2) (hg : y.goodCount ≤ 2) : FanSound y :=
    fanSound_turning (x := { x with lastRpm := some (windowRpm x.pulses c.pulsesPerRev) }) hx hy
      (by rw [hframe]) hl hg hrpm
  have hlow := h.2.2.1
  have hgood := h.2.2.2.1
  cases hs : x.state with
  | stopped =>
    rw [Fan.closeWindow_stopped hs]
    exact hrpm
  | starting =>
    rw [Fan.closeWindow_starting hs]
    split
    · exact hturns (fun he => FanState.noConfusion he) (by rw [hs]; exact fun he => FanState.noConfusion he) rfl (Nat.zero_le _) (Nat.zero_le _)
    · exact hrpm
  | running =>
    have hx : x.state ≠ .stopped := by rw [hs]; exact fun he => FanState.noConfusion he
    cases hk : x.skipWindow with
    | true =>
      rw [Fan.closeWindow_skipped hs hk]
      exact hrpm
    | false =>
      rw [Fan.closeWindow_running hs hk]
      split
      · exact hturns hx hx rfl (Nat.zero_le _) hgood
      · split
        · exact hturns (fun he => FanState.noConfusion he) hx rfl (Nat.zero_le _) (Nat.zero_le _)
        · next hn => exact hturns hx hx rfl (by dsimp only; omega) hgood
  | failed =>
    have hx : x.state ≠ .stopped := by rw [hs]; exact fun he => FanState.noConfusion he
    rw [Fan.closeWindow_failed hs]
    split
    · split
      · exact hturns (fun he => FanState.noConfusion he) hx rfl (Nat.zero_le _) (Nat.zero_le _)
      · next hn => exact hturns hx hx rfl hlow (by dsimp only; omega)
    · exact hturns hx hx rfl hlow (Nat.zero_le _)

theorem pwmCompare_le {duty : Nat} (h : duty ≤ 1000) (divisor : Nat) : pwmCompare duty divisor ≤ divisor :=
  Nat.div_le_of_le_mul (Nat.mul_le_mul_right _ h)

theorem fanSound_drive {x : Fan} {duty : Nat} (hduty : duty ≤ 1000) (now : Nat) (h : FanSound x) : FanSound (x.drive duty now) := by
  obtain ⟨-, hstop, hl, hg, -, -, hn, hrpm⟩ := h
  have hcomp := pwmCompare_le hduty x.divisor
  by_cases hd : duty = 0
  · subst hd
    exact ⟨hduty, iff_of_true rfl rfl, Nat.zero_le _, Nat.zero_le _, Nat.zero_le _, hcomp, hn, hrpm⟩
  · by_cases hs : x.state = .stopped
    · rw [Fan.drive_stopped hd hs]
      exact ⟨hduty, iff_of_false hd fun he => FanState.noConfusion he, hl, hg, Nat.zero_le _, hcomp, hn, hrpm⟩
    · rw [Fan.drive_turning hd hs]
      exact ⟨hduty, iff_of_false hd hs, hl, hg, Nat.zero_le _, hcomp, hn, hrpm⟩

theorem fanDuty_le {c : FanSetting} (hr : c.inRange = true) (hc : c.constraint = true) {out : Nat} (ho : out ≤ 1000) : fanDuty c out ≤ 1000 := by
  rw [FanSetting.inRange, decide_eq_true_eq] at hr
  have hle : c.minDuty ≤ c.maxDuty := of_decide_eq_true hc
  unfold fanDuty
  split
  · exact Nat.zero_le _
  · have : (c.maxDuty - c.minDuty) * out / 1000 ≤ c.maxDuty - c.minDuty := by
      refine Nat.div_le_of_le_mul ?_
      rw [Nat.mul_comm]
      exact Nat.mul_le_mul_right _ ho
    omega

/-! #### A fan's divisor and compare count (R77, R86, R95) -/

theorem fanSound_loadPwm {x : Fan} (frequency : Nat) (h : FanSound x) : FanSound (x.loadPwm frequency) := by
  obtain ⟨hd, hstop, hl, hg, hp, -, hn, hrpm⟩ := h
  exact ⟨hd, hstop, hl, hg, hp, pwmCompare_le hd _, hn, hrpm⟩

theorem fanSound_onReset {x : Fan} (h : FanSound x) : FanSound x.onReset := by
  obtain ⟨hd, -, -, -, -, hc, hn, hrpm⟩ := h
  refine ⟨hd, ?_, Nat.zero_le _, Nat.zero_le _, Nat.zero_le _, hc, hn, hrpm⟩
  change x.duty = 0 ↔ (if x.duty = 0 then FanState.stopped else .starting) = .stopped
  split
  · next h0 => exact iff_of_true h0 rfl
  · next h0 => exact iff_of_false h0 fun he => FanState.noConfusion he

theorem fanSound_onWrite {x : Fan} (old new now : Nat) (h : FanSound x) : FanSound (x.onWrite old new now) := by
  have hload := fanSound_loadPwm new h
  unfold Fan.onWrite
  split
  · exact h
  · dsimp only
    split
    · exact hload
    · next h0 =>
      obtain ⟨hd, -, -, -, hp, hc, hn, hrpm⟩ := hload
      exact ⟨hd, iff_of_false h0 fun he => FanState.noConfusion he, Nat.zero_le _, Nat.zero_le _, hp, hc, hn, hrpm⟩

theorem Fan.onWrite_divisor {x : Fan} {old : Nat} (h : x.divisor = 250000 / old) (new now : Nat) : (x.onWrite old new now).divisor = 250000 / new := by
  unfold Fan.onWrite
  split
  · next he => rw [h, he]
  · dsimp only
    split <;> rfl

theorem fanSound_onRestart {x : Fan} (old new now : Nat) (h : FanSound x) : FanSound (x.onRestart old new now) := by
  have hload : FanSound (if old = new then x else x.loadPwm new) := by
    split
    · exact h
    · exact fanSound_loadPwm new h
  obtain ⟨hd, hstop, hl, hg, -, hc, hn, hrpm⟩ := hload
  exact ⟨hd, hstop, hl, hg, Nat.zero_le _, hc, hn, hrpm⟩

theorem Fan.onRestart_divisor {x : Fan} {old : Nat} (h : x.divisor = 250000 / old) (new now : Nat) : (x.onRestart old new now).divisor = 250000 / new := by
  rw [Fan.onRestart_eq]
  dsimp only
  split
  · next he => rw [h, he]
  · rfl

/-! #### The cooling state, change by change -/

/-- The zones, the fans and the shed records stand, and the part is in the same phase. -/
structure SameCooling (s t : State) : Prop where
  phase : t.phase = s.phase
  tables : t.tables = s.tables
  zones : t.zones = s.zones
  fans : t.fans = s.fans
  shed : t.psq.shed = s.psq.shed

theorem SameCooling.sound (h : SameCooling s t) (hs : CoolingSound s) : CoolingSound t := by
  unfold CoolingSound
  rw [h.phase, h.tables, h.zones, h.fans, h.shed]
  exact hs

/-- The fans and the tables move; the zones and the shed records stand. -/
theorem coolingSound_fans (hp : t.phase = s.phase) (hz : t.zones = s.zones) (hsh : t.psq.shed = s.psq.shed) (hwf : t.tables.wf = true)
    (hf : ∀ f : FanId, FanSound t.fans[f] ∧ t.fans[f].divisor = 250000 / t.tables.fans[f].pwmFrequency) (hs : CoolingSound s) :
    CoolingSound t := by
  obtain ⟨-, hzones, -, hrest⟩ := hs
  refine ⟨hwf, by rw [hz]; exact hzones, hf, ?_⟩
  rw [hp, hz, hsh]
  exact hrest

theorem coolingSound_controllerReset (byPin : Bool) (hs : CoolingSound s) : CoolingSound (s.controllerReset byPin) := by
  obtain ⟨hwf, hzones, hfans, -⟩ := hs
  have hphase := s.controllerReset_phase byPin
  have hnot (x : Phase) (hx : x = .running ∨ x = .powerOnHold ∨ x = .powerOnLoad) : (s.controllerReset byPin).phase ≠ x := by
    rw [hphase]
    rcases hx with rfl | rfl | rfl <;> split <;> exact fun he => Phase.noConfusion he
  refine ⟨by rw [State.controllerReset_tables]; exact hwf, fun z => ?_, fun f => ?_, fun he => absurd he (hnot _ (.inl rfl)), fun _ z => ?_,
    fun he => he.elim (fun he => absurd he (hnot _ (.inr (.inl rfl)))) fun he => absurd he (hnot _ (.inr (.inr rfl)))⟩
  · rw [State.controllerReset_zones, get_ofFn]
    obtain ⟨hh, ho, hsh, hsince, -⟩ := hzones z
    exact ⟨hh, ho, hsh, hsince, Nat.zero_le _⟩
  · rw [State.controllerReset_fans, get_ofFn, State.controllerReset_tables]
    exact ⟨fanSound_onReset (hfans f).1, (hfans f).2⟩
  · rw [State.controllerReset_psq]
    exact get_replicate _ _

theorem Late.cooling (h : Late s t) (hs : CoolingSound s) : CoolingSound t := by
  cases h
  case reset byPin _ => exact coolingSound_controllerReset byPin hs
  all_goals exact SameCooling.sound (s := s) ⟨rfl, rfl, rfl, rfl, rfl⟩ hs

theorem shedFollows_idle_iff {old new : Bool} {r : ShedRecord} (h : r = .idle ↔ old = false) (now : Nat) :
    shedFollows old new r now = .idle ↔ new = false := by
  cases old <;> cases new
  · exact h
  · exact iff_of_false (fun he => ShedRecord.noConfusion he) (by decide)
  · exact iff_of_true rfl rfl
  · exact h.trans (iff_of_false (by decide) (by decide))

theorem coolingSound_periodWork (hr : s.phase = .running) (hs : CoolingSound s) : CoolingSound s.periodWork := by
  obtain ⟨hwf, hzones, hfans, hrun, -, -⟩ := hs
  have hzone (z : ZoneId) : ZoneSound s.zonesNext[z] := by
    rw [State.zonesNext_get]
    exact zoneSound_zoneWork hwf _ (hzones z)
  refine ⟨hwf, hzone, fun f => ?_, fun _ z => ?_, fun hn => absurd hr hn, fun hn => ?_⟩
  · change FanSound s.fansNext[f] ∧ s.fansNext[f].divisor = _
    obtain ⟨hrange, hcons⟩ := (s.tables.wf_iff.mp hwf).2.2.2.2.2.2.2.1 f
    have hjudged : s.judgedFans[f] = (s.fans[f]).closeWindow s.tables.fans[f] s.now := get_ofFn _ _
    rw [State.fansNext, get_ofFn, hjudged]
    refine ⟨fanSound_drive (fanDuty_le hrange hcons (hzone _).2.1) _ (fanSound_closeWindow _ _ (hfans f).1), ?_⟩
    rw [(Fan.drive_pwm _ _ _).2.2.1, Fan.closeWindow_frame]
    exact (hfans f).2
  · change s.shedsNext[z] = .idle ↔ s.zonesNext[z].shed = false
    rw [State.shedsNext, get_ofFn]
    exact shedFollows_idle_iff (hrun hr z) _
  · rw [show s.periodWork.phase = s.phase from rfl, hr] at hn
    rcases hn with hn | hn <;> exact Phase.noConfusion hn

theorem coolingSound_shed {z : ZoneId} {r : ShedRecord} (h : s.psq.shed[z] ≠ .idle) (hr : r ≠ .idle) (hs : CoolingSound s) :
    CoolingSound (s.setShed z r) := by
  obtain ⟨hwf, hzones, hfans, hrun, hstill, hdark⟩ := hs
  refine ⟨hwf, hzones, hfans, fun hp x => ?_, fun hn => absurd (hstill hn z) h, hdark⟩
  change (s.psq.shed.set z r)[x] = .idle ↔ _
  rw [get_set]
  split
  · next he =>
    subst he
    exact (iff_of_false hr h).trans (hrun hp x)
  · exact hrun hp x

/-- The fans are those of the tables loaded, and the part runs with a shed record out of IDLE exactly for the zones in SHED. -/
theorem coolingSound_started (hp : t.phase = .running) (hz : t.zones = s.zones) (hwf : t.tables.wf = true)
    (hf : ∀ f : FanId, FanSound t.fans[f] ∧ t.fans[f].divisor = 250000 / t.tables.fans[f].pwmFrequency)
    (hsh : ∀ z : ZoneId, t.psq.shed[z] = .idle ↔ t.zones[z].shed = false) (hs : CoolingSound s) : CoolingSound t := by
  refine ⟨hwf, by rw [hz]; exact hs.2.1, hf, fun _ => hsh, fun hn => absurd hp hn, fun hn => ?_⟩
  rw [hp] at hn
  rcases hn with hn | hn <;> exact Phase.noConfusion hn

theorem coolingSound_start (mf : Bool) (h : s.phase = .powerOnLoad) (hp : PowerQueueSound s) (hs : CoolingSound s) :
    CoolingSound (s.install mf).startPart := by
  have hfan := (s.install mf).startPart_fan
  have hzones := (s.install mf).startPart_zones.trans (s.install_zones mf)
  have hpsq := (s.install mf).startPart_psq.trans (s.install_psq mf)
  have htables := (s.install mf).startPart_tables
  have hphase := (s.install mf).startPart_phase
  generalize (s.install mf).startPart = t at hfan hzones hpsq htables hphase ⊢
  obtain ⟨-, -, hfans, -, hstill, hdark⟩ := id hs
  refine coolingSound_started hphase hzones ?wf (fun f => ?fan) (fun z => ?shed) hs
  case wf =>
    rw [htables, State.install_tables]
    exact tablesLoaded_wf hp.1 mf
  case fan =>
    rw [hfan, State.install_fans, htables]
    obtain ⟨hd, hstop, hl, hg, -, -, hn, hrpm⟩ := (hfans f).1
    exact ⟨⟨hd, hstop, hl, hg, Nat.zero_le _, le_rfl, hn, hrpm⟩, rfl⟩
  case shed =>
    rw [hpsq, hzones]
    exact iff_of_true (hstill (by rw [h]; exact fun he => Phase.noConfusion he) z) (hdark (.inr h) z)

theorem coolingSound_restart (mf : Bool) (h : s.phase = .resetLoad) (hp : PowerQueueSound s) (hs : CoolingSound s) :
    CoolingSound ((s.install mf).restarted s.tables.fans) := by
  obtain ⟨-, -, hfans, -, hstill, -⟩ := id hs
  refine coolingSound_started (s := s) rfl (s.install_zones mf) ?wf (fun f => ?fan) (fun z => ?shed) hs
  case wf =>
    change (s.install mf).tables.wf = true
    rw [State.install_tables]
    exact tablesLoaded_wf hp.1 mf
  case fan =>
    change FanSound (Vector.ofFn _ : Vector Fan 6)[f] ∧ ((Vector.ofFn _ : Vector Fan 6)[f]).divisor = 250000 / (s.install mf).tables.fans[f].pwmFrequency
    rw [get_ofFn, State.install_fans]
    exact ⟨fanSound_onRestart _ _ _ (hfans f).1, Fan.onRestart_divisor (hfans f).2 _ _⟩
  case shed =>
    change (Vector.ofFn _)[z] = ShedRecord.idle ↔ (s.install mf).zones[z].shed = false
    rw [get_ofFn, State.install_psq]
    split
    · next he => exact iff_of_false (fun he => ShedRecord.noConfusion he) (by rw [he]; decide)
    · next he => exact iff_of_true (hstill (by rw [h]; exact fun he => Phase.noConfusion he) z) (Bool.eq_false_iff.mpr he)

theorem Calm.cooling (h : Calm s t) (hp : PowerQueueSound s) (hs : CoolingSound s) : CoolingSound t := by
  cases h
  case fan f x h hd =>
    refine coolingSound_fans (s := s) rfl rfl rfl hs.1 (fun y => ?_) hs
    change FanSound (s.fans.set f x)[y] ∧ (s.fans.set f x)[y].divisor = _
    rw [get_set]
    split
    · next he =>
      subst he
      exact ⟨h (hs.2.2.1 y).1, hd.trans (hs.2.2.1 y).2⟩
    · exact hs.2.2.1 y
  case period p hr _ =>
    have hsame : CoolingSound { s with tb := { s.tb with nextPeriod := some p }, converted := 0 } :=
      SameCooling.sound (s := s) ⟨rfl, rfl, rfl, rfl, rfl⟩ hs
    exact coolingSound_periodWork (s := { s with tb := { s.tb with nextPeriod := some p }, converted := 0 }) hr hsame
  case shed z r h hr => exact coolingSound_shed h hr hs
  case powerOn =>
    have hreset : CoolingSound State.reset := resetIsSound.2.2.2.1
    refine SameCooling.sound (s := State.reset) ⟨?_, s.powerOnReset_tables, ?_, ?_, by rw [s.powerOnReset_psq]⟩ hreset <;>
      unfold State.powerOnReset <;> rfl
  case release p h =>
    obtain ⟨hwf, hzones, hfans, -, hstill, hdark⟩ := hs
    rcases h with ⟨h, rfl⟩ | ⟨h, rfl⟩
    · exact ⟨hwf, hzones, hfans, fun he => Phase.noConfusion he, fun _ => hstill (by rw [h]; exact fun he => Phase.noConfusion he), fun _ => hdark (.inl h)⟩
    · exact ⟨hwf, hzones, hfans, fun he => Phase.noConfusion he, fun _ => hstill (by rw [h]; exact fun he => Phase.noConfusion he),
        fun he => he.elim (fun he => Phase.noConfusion he) fun he => Phase.noConfusion he⟩
  case pulse h =>
    obtain ⟨hwf, hzones, hfans, -, hstill, hdark⟩ := hs
    exact ⟨hwf, hzones, hfans, fun he => Phase.noConfusion he, fun _ => hstill (by rw [h]; exact fun he => Phase.noConfusion he), fun _ => hdark (.inr h)⟩
  case start mf h => exact coolingSound_start mf h hp hs
  case restart mf h => exact coolingSound_restart mf h hp hs
  case tables u hwf _ =>
    refine coolingSound_fans (s := s) rfl rfl rfl (hwf hs.1) (fun f => ?_) hs
    rw [get_ofFn]
    exact ⟨fanSound_onWrite _ _ _ (hs.2.2.1 f).1, Fan.onWrite_divisor (hs.2.2.1 f).2 _ _⟩
  case lost l _ _ =>
    exact SameCooling.sound ⟨Lost_phase s l, Lost_tables s l, Lost_zones s l, Lost_fans s l, by rw [Lost_psq]⟩ hs
  all_goals exact SameCooling.sound (s := s) ⟨rfl, rfl, rfl, rfl, rfl⟩ hs

theorem State.releasedPsq_shed (s : State) (b : BayId) : (s.releasedPsq b).shed = s.psq.shed := by rw [s.releasedPsq_eq]

theorem Stir.cooling (h : Stir s t) (hs : CoolingSound s) : CoolingSound t := by
  cases h
  case off b r _ _ _ _ => exact SameCooling.sound (s := s) ⟨rfl, rfl, rfl, rfl, s.releasedPsq_shed b⟩ hs
  all_goals exact SameCooling.sound (s := s) ⟨rfl, rfl, rfl, rfl, rfl⟩ hs

theorem cooling_kept : Kept CoolingSound where
  late h _ hs := h.cooling hs
  calm h hp hs := h.cooling hp hs
  stir h _ hs := h.cooling hs
  grant {s _} _ hs := SameCooling.sound (s := s) ⟨rfl, rfl, rfl, rfl, rfl⟩ hs
  emptied {s _} _ hs := SameCooling.sound (s := s) ⟨rfl, rfl, rfl, rfl, rfl⟩ hs
  lost {s} l hs := SameCooling.sound ⟨Lost_phase s l, Lost_tables s l, Lost_zones s l, Lost_fans s l, by rw [Lost_psq]⟩ hs

/-! #### The lines (R113, R118, R120, R124) -/

/-- The light engine stands, and the link is lost only where it was. -/
theorem lightsSound_of_len (hl : t.len = s.len) (hlost : t.liu.lost → s.liu.lost) (hs : LightsSound s) : LightsSound t := by
  obtain ⟨hlines, hclock, hmark⟩ := hs
  unfold LightsSound
  rw [hl]
  exact ⟨hlines, hclock, fun he => hmark (s.linkLost_iff_lost.mpr (hlost (t.linkLost_iff_lost.mp he)))⟩

theorem lightsSound_lost (l : Liu) (hs : LightsSound s) : LightsSound (Lost s l) := by
  obtain ⟨hlines, hclock, -⟩ := hs
  unfold LightsSound
  rw [Lost_len]
  exact ⟨hlines, hclock, fun _ => rfl⟩

theorem not_lost_of_link (h : t.liu.link ≠ .lost) (h' : t.liu.link ≠ .fault) : t.linkLost = true → t.len.linkLost = true := fun he =>
  (t.linkLost_iff_lost.mp he).elim (fun hl => absurd hl h) fun hl => absurd hl.1 h'

theorem lineSound_onReset (l : Line) : LineSound l.onReset := ⟨rfl, Iff.rfl⟩

theorem lightsSound_controllerReset (byPin : Bool) (hs : LightsSound s) : LightsSound (s.controllerReset byPin) := by
  obtain ⟨-, hclock, -⟩ := hs
  have hlink : (s.controllerReset byPin).liu.link = .disabled := by rw [State.controllerReset_liu]; rfl
  refine ⟨fun b => ?_, ?_, not_lost_of_link (by rw [hlink]; exact fun he => LinkState.noConfusion he) (by rw [hlink]; exact fun he => LinkState.noConfusion he)⟩
  · rw [State.controllerReset_len]
    simp only [get_ofFn]
    exact ⟨lineSound_onReset _, lineSound_onReset _⟩
  · rw [State.controllerReset_len]
    exact hclock

/-- The light engine and the link start (R128, R134). -/
theorem lightsSound_started (hl : t.len = s.len.start) (hlink : t.liu.link = .listen) (hs : LightsSound s) : LightsSound t := by
  obtain ⟨hlines, -, -⟩ := hs
  refine ⟨?_, ?_, not_lost_of_link (by rw [hlink]; exact fun he => LinkState.noConfusion he) (by rw [hlink]; exact fun he => LinkState.noConfusion he)⟩
  · rw [hl]
    exact hlines
  · rw [hl]
    exact (by decide : 0 < 4294967296)

theorem Late.lights (h : Late s t) (hs : LightsSound s) : LightsSound t := by
  cases h
  case link l h => exact lightsSound_of_len (s := s) rfl h.lost hs
  case sending tag r hr hc _ _ =>
    refine lightsSound_of_len (s := s) rfl (fun he => ?_) hs
    have hup : (s.liu.pushReply r).link = s.liu.link ∧ (s.liu.pushReply r).lostLatch = s.liu.lostLatch := by
      rw [s.liu.pushReply_frame r]
      exact ⟨rfl, rfl⟩
    unfold Liu.lost at he
    rw [hup.1, hup.2] at he
    exact he
  case reset byPin _ => exact lightsSound_controllerReset byPin hs
  all_goals exact lightsSound_of_len (s := s) rfl id hs

theorem Calm.lights_sound (h : Calm s t) (hs : LightsSound s) : LightsSound t := by
  cases h
  case lights len light h _ => exact h hs
  case powerOn =>
    have hreset : LightsSound State.reset := resetIsSound.2.2.2.2.1
    refine lightsSound_of_len (s := State.reset) ?_ ?_ hreset <;> unfold State.powerOnReset
    · rfl
    · exact id
  case start mf _ =>
    exact lightsSound_started (s := s) ((State.startPart_len _).trans (by rw [State.install_len])) (by rw [State.startPart_liu]; rfl) hs
  case restart mf _ => exact lightsSound_started (s := s) (by rw [← s.install_len mf]; rfl) rfl hs
  case lost l _ _ => exact lightsSound_lost l hs
  all_goals exact lightsSound_of_len (s := s) rfl id hs

theorem Stir.lights (h : Stir s t) (hs : LightsSound s) : LightsSound t := by
  cases h <;> exact lightsSound_of_len (s := s) rfl id hs

theorem lights_kept : Kept LightsSound where
  late h _ hs := h.lights hs
  calm h _ hs := h.lights_sound hs
  stir h _ hs := h.lights hs
  grant {s _} _ hs := lightsSound_of_len (s := s) rfl id hs
  emptied {s _} hl hs := lightsSound_of_len (s := s) rfl hl hs
  lost l hs := lightsSound_lost l hs

/-- Settles O58: each change of a run keeps the sources, the zones, the fans and the lines, in a part whose power state is sound. -/
theorem stepKeepsCoolingSound : Obligations.StepKeepsCoolingSound := by
  intro s t hs hstep
  obtain ⟨hpower, hqueue, hsources, hcooling, hlights, -⟩ := hs
  rcases step_cases hstep with ⟨-, rfl⟩ | ⟨c, rest, g, -, hrun⟩
  · rw [s.tick_frame]
    exact ⟨SameSources.sound (s := s) (.of_eq rfl rfl rfl rfl rfl) hsources, SameCooling.sound (s := s) ⟨rfl, rfl, rfl, rfl, rfl⟩ hcooling,
      lightsSound_of_len (s := s) rfl id hlights⟩
  · have hp : PowerQueueSound (s.withPending rest) := SamePower.sound (s := s) (.of_eq rfl rfl rfl) ⟨hpower, hqueue⟩
    exact ⟨sources_kept.run hrun hp (SameSources.sound (s := s) (.of_eq rfl rfl rfl rfl rfl) hsources),
      cooling_kept.run hrun hp (SameCooling.sound (s := s) ⟨rfl, rfl, rfl, rfl, rfl⟩ hcooling),
      lights_kept.run hrun hp (lightsSound_of_len (s := s) rfl id hlights)⟩

end Sys2Proof.Machine

/-! ### The link, the phases and quiesce, change by change (chapters 7 to 10) -/

namespace Sys2Proof.Machine

open Safety

variable {s t u : State} {g k : Bool}

/-! #### The phases and the blocks -/

/-- What every step keeps of the link and of the phases. -/
abbrev LinkControlSound (s : State) : Prop := LinkSound s.liu ∧ ControlSound s

/-- The phase, the time bases, the MRU, the CMP and the quiesce flag stand, and the link is as DISABLED as before. -/
structure SameControl (s t : State) : Prop where
  phase : t.phase = s.phase
  rstn : t.rstn = s.rstn
  period : t.tb.nextPeriod = none ↔ s.tb.nextPeriod = none
  light : t.tb.nextLight = none ↔ s.tb.nextLight = none
  start : t.tb.startTime = s.tb.startTime
  mru : t.mru.state = s.mru.state
  save : t.mru.saveInProgress = s.mru.saveInProgress
  cmp : t.cmp = s.cmp
  quiesce : t.psq.quiescePending = s.psq.quiescePending
  disabled : t.liu.link = .disabled ↔ s.liu.link = .disabled

theorem SameControl.refl (s : State) : SameControl s s := ⟨rfl, rfl, Iff.rfl, Iff.rfl, rfl, rfl, rfl, rfl, rfl, Iff.rfl⟩

/-- Everything stands but the replies on their way, of which there are as many as the MRU awaits. -/
theorem SameControl.of_replies (h : SameControl s t) (hr : restartReplies t.liu = if isSending s.mru.state = true then 1 else 0)
    (hs : ControlSound s) : ControlSound t := by
  obtain ⟨h1, h2, h3, h4, h5, h6, h7, h8, h9, h10, h11, h12, h13, h14, -⟩ := hs
  unfold ControlSound
  rw [h.disabled, h.cmp, h.phase, h.period, h.light, h.rstn, h.start, h.mru, h.save, h.quiesce]
  exact ⟨h1, h2, h3, h4, h5, h6, h7, h8, h9, h10, h11, h12, h13, h14, hr⟩

theorem SameControl.sound (h : SameControl s t) (hr : restartReplies t.liu = restartReplies s.liu) (hs : ControlSound s) : ControlSound t := by
  obtain ⟨-, -, -, -, -, -, -, -, -, -, -, -, -, -, h15⟩ := id hs
  exact h.of_replies (hr.trans h15) hs

/-- The link, its replies and everything else stand. -/
theorem SameControl.linked (h : SameControl s t) (hl : t.liu = s.liu) (hs : LinkControlSound s) : LinkControlSound t :=
  ⟨by rw [hl]; exact hs.1, h.sound (by rw [hl]) hs.2⟩

theorem linkSound_initial : LinkSound Liu.initial := resetIsSound.2.2.2.2.2.1

/-- A controller reset of a part that runs, or whose reset load runs (R189). -/
theorem control_controllerReset (byPin : Bool) (hr : s.rstn = true) (hst : s.tb.startTime ≠ none) : LinkControlSound (s.controllerReset byPin) := by
  have hphase := s.controllerReset_phase byPin
  have hrstn := s.controllerReset_rstn byPin
  have htb := s.controllerReset_tb byPin
  have hliu := s.controllerReset_liu byPin
  have hmru := s.controllerReset_mru byPin
  have hcmp := s.controllerReset_cmp byPin
  have hquiesce : (s.controllerReset byPin).psq.quiescePending = false := by rw [State.controllerReset_psq]
  generalize s.controllerReset byPin = t at hphase hrstn htb hliu hmru hcmp hquiesce ⊢
  refine ⟨by rw [hliu]; exact linkSound_initial, ?_⟩
  unfold ControlSound
  rw [hphase, hrstn, htb, hliu, hmru, hcmp, hquiesce]
  have hreplies : restartReplies Liu.initial = 0 := rfl
  have hdisabled : Liu.initial.link = .disabled := rfl
  cases byPin <;> simp [hr, hst, hreplies, hdisabled, isSaving, isSending]

theorem running_of_mru (hs : ControlSound s) (hm : s.mru.state ≠ .idle) : s.phase = .running := by
  obtain ⟨-, -, -, -, -, -, h7, -⟩ := hs
  exact not_not.mp fun hn => hm (h7 hn)

theorem running_of_enabled (hs : ControlSound s) (hl : s.liu.link ≠ .disabled) : s.phase = .running :=
  not_not.mp fun hn => hl (hs.1.mpr hn)

theorem Late.control (h : Late s t) (hs : LinkControlSound s) : LinkControlSound t := by
  obtain ⟨hlink, hcontrol⟩ := hs
  cases h
  case free => exact SameControl.linked (s := s) ⟨rfl, rfl, Iff.rfl, Iff.rfl, rfl, rfl, rfl, rfl, rfl, Iff.rfl⟩ rfl ⟨hlink, hcontrol⟩
  case link l h =>
    obtain ⟨hl, hr⟩ := h.sound hlink
    exact ⟨hl, SameControl.sound (s := s) ⟨rfl, rfl, Iff.rfl, Iff.rfl, rfl, rfl, rfl, rfl, rfl, h.disabled⟩ hr hcontrol⟩
  case sending tag r hr hc hn hm =>
    obtain ⟨hsound, hcount, hlinked, -⟩ := Liu.pushReply_restart hr hc hn
    have hrun := running_of_enabled hcontrol fun he => by rw [he] at hc; cases hc
    obtain ⟨h1, h2, h3, h4, h5, h6, -, -, -, h10, h11, h12, h13, h14, h15⟩ := hcontrol
    refine ⟨hsound hlink, ?_⟩
    rw [hm] at h15
    unfold ControlSound
    dsimp only
    rw [hlinked, hcount, h15]
    exact ⟨h1, h2, h3, h4, h5, h6, fun hn => absurd hrun hn, fun he => MruState.noConfusion he, fun _ he => Bool.noConfusion he,
      h10, h11, h12, h13, h14, rfl⟩
  case reset byPin h =>
    have hphase : s.phase = .running ∨ s.phase = .resetLoad := by
      rcases h with h | ⟨-, h⟩ | h
      · exact .inl h
      · exact .inr h
      · exact .inl (running_of_mru hcontrol h)
    obtain ⟨-, -, -, -, h5, h6, -⟩ := hcontrol
    refine control_controllerReset byPin (Bool.not_eq_false _ ▸ fun he => ?_) fun he => ?_
    · rcases hphase with hp | hp <;> rw [hp] at h5 <;> rcases h5.mp he with he | he <;> exact Phase.noConfusion he
    · rcases hphase with hp | hp <;> rw [hp] at h6 <;> rcases h6.mp he with he | he <;> exact Phase.noConfusion he

/-- A link that starts from DISABLED (R134). -/
theorem linkSound_enterListen {l : Liu} (hd : l.link = .disabled) (now : Nat) (h : LinkSound l) : LinkSound (l.enterListen now) := by
  obtain ⟨h1, h2, h3, h4, h5, h6, h7, h8, h9, -, -, h12⟩ := h
  rw [hd] at h2 h3 h8 h9
  exact ⟨h1, fun he => LinkState.noConfusion (h2 he), fun he => LinkState.noConfusion (h3 he), h4, h5, h6, h7, fun _ => h8 rfl, fun _ => h9 rfl,
    fun he => Bool.noConfusion he, fun he => absurd he (Option.some_ne_none _), h12⟩

theorem restartReplies_enterListen (l : Liu) (now : Nat) : restartReplies (l.enterListen now) = restartReplies l := rfl

/-- The part starts to run with its tables loaded (R187 to R189). -/
theorem control_started {now : Nat} (hphase : s.phase = .powerOnLoad ∨ s.phase = .resetLoad) (hp : t.phase = .running) (hr : t.rstn = s.rstn)
    (hperiod : t.tb.nextPeriod ≠ none) (hlight : t.tb.nextLight ≠ none) (hstart : t.tb.startTime ≠ none)
    (hm : t.mru.state = s.mru.state) (hsave : t.mru.saveInProgress = s.mru.saveInProgress) (hq : t.psq.quiescePending = s.psq.quiescePending)
    (hc : t.cmp.state = .idle ∧ t.cmp.waitStart = none ∧ t.cmp.readStart = none) (hl : t.liu = s.liu.enterListen now)
    (hs : LinkControlSound s) : LinkControlSound t := by
  obtain ⟨hlink, h1, h2, -, -, h5, -, h7, h8, -, h10, -, -, -, -, h15⟩ := hs
  have hstill : s.phase ≠ .running := by rcases hphase with hp | hp <;> rw [hp] <;> exact fun he => Phase.noConfusion he
  have hrstn : s.rstn = true := by
    refine Bool.not_eq_false _ ▸ fun he => ?_
    rcases hphase with hp | hp <;> rw [hp] at h5 <;> rcases h5.mp he with he | he <;> exact Phase.noConfusion he
  obtain ⟨hstate, hwait, hread⟩ := hc
  have hidle := h7 hstill
  rw [h2.mpr hstill] at h10
  rw [hidle] at h15
  refine ⟨by rw [hl]; exact linkSound_enterListen (h1.mpr hstill) now hlink, ?_⟩
  have hreplies : restartReplies (s.liu.enterListen now) = 0 := h15
  have hlinked : (s.liu.enterListen now).link = .listen := rfl
  unfold ControlSound
  rw [hp, hr, hrstn, hm, hidle, hsave, h10, hq, h8 hidle, hstate, hwait, hread, hl, hreplies, hlinked]
  simp [hperiod, hlight, hstart, isSaving, isSending]

theorem State.install_cmp_idle (s : State) (mf : Bool) :
    (s.install mf).cmp.state = .idle ∧ (s.install mf).cmp.waitStart = none ∧ (s.install mf).cmp.readStart = none := by
  rw [s.install_eq]
  exact ⟨rfl, rfl, rfl⟩

/-- What an installation leaves of the blocks that the phases speak of. -/
theorem State.install_control (s : State) (mf : Bool) :
    (s.install mf).rstn = s.rstn ∧ (s.install mf).tb = s.tb ∧ (s.install mf).mru.state = s.mru.state ∧
      (s.install mf).mru.saveInProgress = s.mru.saveInProgress := by
  rw [s.install_eq]
  exact ⟨rfl, rfl, rfl, rfl⟩

theorem control_start (mf : Bool) (h : s.phase = .powerOnLoad) (hs : LinkControlSound s) : LinkControlSound (s.install mf).startPart := by
  obtain ⟨hrstn, -, hm, hsave⟩ := s.install_control mf
  refine control_started (now := (s.install mf).now) (.inl h) (State.startPart_phase _) ((State.startPart_rstn _).trans hrstn) ?_ ?_ ?_
    (by rw [State.startPart_mru, hm]) (by rw [State.startPart_mru, hsave]) (by rw [State.startPart_psq, State.install_psq])
    (by rw [State.startPart_cmp]; exact s.install_cmp_idle mf) (by rw [State.startPart_liu, State.install_liu]) hs
  all_goals
    rw [State.startPart_tb]
    exact Option.some_ne_none _

theorem control_restart (mf : Bool) (h : s.phase = .resetLoad) (hs : LinkControlSound s) :
    LinkControlSound ((s.install mf).restarted s.tables.fans) := by
  obtain ⟨hrstn, htb, hm, hsave⟩ := s.install_control mf
  obtain ⟨-, -, -, -, -, -, h6, -⟩ := id hs
  refine control_started (now := (s.install mf).now) (.inr h) rfl hrstn (Option.some_ne_none _) (Option.some_ne_none _) ?_ hm hsave
    (by change (s.install mf).psq.quiescePending = _; rw [s.install_psq mf]) (s.install_cmp_idle mf) (congrArg (Liu.enterListen · (s.install mf).now) (s.install_liu mf)) hs
  change (s.install mf).tb.startTime ≠ none
  rw [htb]
  intro he
  rw [h] at h6
  rcases h6.mp he with he | he <;> exact Phase.noConfusion he

/-- RSTn returns high, and the load begins (R188, R189). -/
theorem control_release {p : Phase} (h : (s.phase = .powerOnHold ∧ p = .powerOnLoad) ∨ (s.phase = .resetHold ∧ p = .resetLoad))
    (hs : LinkControlSound s) : LinkControlSound { s with phase := p, rstn := true, cmp := s.cmp.beginLoad s.now } := by
  obtain ⟨hlink, h1, h2, h3, h4, -, h6, h7, h8, h9, h10, h11, -, -, -, h15⟩ := hs
  refine ⟨hlink, ?_⟩
  have hwait : (s.cmp.beginLoad s.now).waitStart.isSome = true := rfl
  have hread : (s.cmp.beginLoad s.now).readStart = none := rfl
  have hstate : (s.cmp.beginLoad s.now).state = s.cmp.state := rfl
  unfold ControlSound
  dsimp only
  rw [hwait, hread, hstate]
  rcases h with ⟨h, rfl⟩ | ⟨h, rfl⟩ <;> rw [h] at h1 h2 h3 h4 h6 h7 <;>
    simp_all

/-- RSTn low abandons a power-on load (R188). -/
theorem control_pulse (h : s.phase = .powerOnLoad) (hs : LinkControlSound s) :
    LinkControlSound { s with phase := .powerOnHold, rstn := false, cmp := { s.cmp with waitStart := none, readStart := none } } := by
  obtain ⟨hlink, h1, h2, h3, h4, -, h6, h7, h8, h9, h10, h11, -, -, -, h15⟩ := hs
  refine ⟨hlink, ?_⟩
  unfold ControlSound
  rw [h] at h1 h2 h3 h4 h6 h7
  simp_all

theorem control_powerOnReset (s : State) : LinkControlSound s.powerOnReset := by
  obtain ⟨-, -, -, -, -, hlink, hcontrol, -⟩ := resetIsSound
  unfold State.powerOnReset
  refine ⟨hlink, ?_⟩
  obtain ⟨h1, h2, h3, h4, h5, h6, h7, h8, h9, h10, h11, h12, h13, h14, h15⟩ := hcontrol
  exact ⟨h1, h2, h3, h4, h5, h6, h7, h8, h9, h10, h11, h12, h13, h14, h15⟩

theorem Calm.control (h : Calm s t) (hs : LinkControlSound s) : LinkControlSound t := by
  cases h
  case lights len light _ hlight => exact SameControl.linked (s := s) ⟨rfl, rfl, Iff.rfl, hlight, rfl, rfl, rfl, rfl, rfl, Iff.rfl⟩ rfl hs
  case period p _ hp =>
    exact SameControl.linked (s := s) ⟨rfl, rfl, iff_of_false (Option.some_ne_none _) hp, Iff.rfl, rfl, rfl, rfl, rfl, rfl, Iff.rfl⟩ rfl hs
  case save c saving h _ => exact ⟨hs.1, h hs.2⟩
  case powerOn => exact control_powerOnReset s
  case release p h => exact control_release h hs
  case pulse h => exact control_pulse h hs
  case start mf h => exact control_start mf h hs
  case restart mf h => exact control_restart mf h hs
  case lost l h hd =>
    obtain ⟨hl, hr⟩ := h hs.1
    have hliu := Lost_liu s l
    have hsame : SameControl s (Lost s l) := by
      refine ⟨Lost_phase s l, Lost_rstn s l, ?_, ?_, ?_, ?_, ?_, Lost_cmp s l, ?_, by rw [hliu]; exact hd⟩
      all_goals simp only [Lost]
    exact ⟨by rw [hliu]; exact hl, hsame.sound (by rw [hliu]; exact hr) hs.2⟩
  all_goals exact SameControl.linked (s := s) ⟨rfl, rfl, Iff.rfl, Iff.rfl, rfl, rfl, rfl, rfl, rfl, Iff.rfl⟩ rfl hs

theorem State.releasedPsq_quiescePending (s : State) (b : BayId) : (s.releasedPsq b).quiescePending = s.psq.quiescePending := by
  rw [s.releasedPsq_eq]

theorem Stir.control (h : Stir s t) (hs : LinkControlSound s) : LinkControlSound t := by
  cases h
  case off b r _ _ _ _ =>
    exact SameControl.linked (s := s) ⟨rfl, rfl, Iff.rfl, Iff.rfl, rfl, rfl, rfl, rfl, s.releasedPsq_quiescePending b, Iff.rfl⟩ rfl hs
  case quiesce tag hr hm =>
    obtain ⟨hlink, h1, h2, h3, h4, h5, h6, -, -, -, h10, h11, h12, h13, h14, h15⟩ := hs
    rw [hm] at h15
    exact ⟨hlink, h1, h2, h3, h4, h5, h6, fun hn => absurd hr hn, fun he => MruState.noConfusion he, fun _ _ => rfl, h10, h11, h12, h13, h14, h15⟩
  all_goals exact SameControl.linked (s := s) ⟨rfl, rfl, Iff.rfl, Iff.rfl, rfl, rfl, rfl, rfl, rfl, Iff.rfl⟩ rfl hs

theorem sameControl_grant (b : BayId) : SameControl s (s.grant b) := ⟨rfl, rfl, Iff.rfl, Iff.rfl, rfl, rfl, rfl, rfl, rfl, Iff.rfl⟩

theorem SameControl.trans (h : SameControl s t) (h' : SameControl t u) : SameControl s u :=
  ⟨h'.phase.trans h.phase, h'.rstn.trans h.rstn, h'.period.trans h.period, h'.light.trans h.light, h'.start.trans h.start, h'.mru.trans h.mru,
    h'.save.trans h.save, h'.cmp.trans h.cmp, h'.quiesce.trans h.quiesce, h'.disabled.trans h.disabled⟩

theorem Grants.control (h : Grants s t) : SameControl s t ∧ t.liu = s.liu := by
  induction h with
  | none => exact ⟨.refl s, rfl⟩
  | grant _ b _ _ ih => exact ⟨ih.1.trans (sameControl_grant b), ih.2⟩

/-- The return lane emptied, a RESTART whose reply was lost ends (R178). -/
theorem control_replyLost (h : SameControl s t) (hl : LinkSound t.liu) (hr : restartReplies t.liu = 0) (hs : ControlSound s) :
    LinkControlSound t.replyLost := by
  rw [t.replyLost_eq, h.mru]
  split
  · next hm =>
    have hrun := running_of_mru hs fun he => by rw [he] at hm; cases hm
    obtain ⟨-, -, -, -, h5, h6, -⟩ := hs
    rw [hrun] at h5 h6
    refine control_controllerReset false ?_ ?_
    · rw [h.rstn]
      refine Bool.not_eq_false _ ▸ fun he => ?_
      rcases h5.mp he with he | he <;> exact Phase.noConfusion he
    · rw [h.start]
      intro he
      rcases h6.mp he with he | he <;> exact Phase.noConfusion he
  · next hm => exact ⟨hl, h.of_replies (by rw [if_neg hm]; exact hr) hs⟩

theorem restartReplies_le (hs : ControlSound s) : restartReplies s.liu ≤ 1 := by
  obtain ⟨-, -, -, -, -, -, -, -, -, -, -, -, -, -, h15⟩ := hs
  rw [h15]
  split <;> decide

theorem Cut.control (h : Cut s t) (hs : LinkControlSound s) : LinkControlSound t := by
  obtain ⟨hlink, hcontrol⟩ := hs
  have hle := restartReplies_le hcontrol
  cases h with
  | emptied l h hl w hw =>
    obtain ⟨hsame, hliu⟩ := hw.control
    have hcut : SameControl s { s with liu := l } := ⟨rfl, rfl, Iff.rfl, Iff.rfl, rfl, rfl, rfl, rfl, rfl, h.disabled⟩
    exact control_replyLost (hcut.trans hsame) (by rw [hliu]; exact h.sound hlink) (by rw [hliu]; exact h.replies hlink hle) hcontrol
  | lost l h w hw =>
    obtain ⟨hsame, hliu⟩ := hw.control
    rw [Lost_liu] at hliu
    have hcut : SameControl s (Lost s l) := by
      refine ⟨Lost_phase s l, Lost_rstn s l, ?_, ?_, ?_, ?_, ?_, Lost_cmp s l, ?_, by rw [Lost_liu]; exact h.disabled⟩
      all_goals simp only [Lost]
    exact control_replyLost (hcut.trans hsame) (by rw [hliu]; exact h.sound hlink) (by rw [hliu]; exact h.replies hlink hle) hcontrol

theorem Run.control (h : Run s g k t) (hs : LinkControlSound s) : LinkControlSound t := by
  induction h with
  | nil => exact hs
  | weaken _ _ _ ih => exact ih
  | late _ hu ih => exact hu.control ih
  | calm _ hu ih => exact hu.control ih
  | stir _ hu ih => exact hu.control ih
  | grant _ b _ _ ih => exact (sameControl_grant b).linked rfl ih
  | cut _ hu ih => exact hu.control ih
  | report _ ih => exact ih
  | settled _ _ ih => exact ih

/-! #### Quiesce (R49, R178) -/

/-- The part still waits only where it did, and a bay that it waits for is still there. -/
theorem quiesceSound_of (hm : t.mru.state = s.mru.state)
    (hb : ∀ b : BayId, s.bays[b].state = .ramping ∨ s.bays[b].state = .removing → t.bays[b].state = .ramping ∨ t.bays[b].state = .removing)
    (hs : QuiesceSound s) : QuiesceSound t := by
  unfold QuiesceSound
  rw [hm]
  intro hw
  obtain ⟨b, h⟩ := hs hw
  exact ⟨b, hb b h⟩

theorem quiesceSound_of_eq (hm : t.mru.state = s.mru.state) (hb : t.bays = s.bays) (hs : QuiesceSound s) : QuiesceSound t :=
  quiesceSound_of hm (fun b h => by rw [hb]; exact h) hs

theorem quiesceSound_of_set {b : BayId} {r : BayRecord} (hm : t.mru.state = s.mru.state) (hb : t.bays = s.bays.set b r)
    (hr : s.bays[b].state = .ramping ∨ s.bays[b].state = .removing → r.state = .ramping ∨ r.state = .removing) (hs : QuiesceSound s) :
    QuiesceSound t := by
  refine quiesceSound_of hm (fun x h => ?_) hs
  rw [hb, get_set]
  split
  · next he => exact hr (he ▸ h)
  · exact h

/-- A part that does not wait for quiesce. -/
theorem quiesceSound_of_not_waits (h : ¬ s.waitsForQuiesce) : QuiesceSound s := fun hw => absurd hw h

theorem quiesceSound_controllerReset (byPin : Bool) : QuiesceSound (s.controllerReset byPin) :=
  quiesceSound_of_not_waits fun h => h.1 (by rw [State.controllerReset_mru])

theorem Late.quiesce (h : Late s t) (hs : QuiesceSound s) : QuiesceSound t := by
  cases h
  case sending tag r _ _ _ _ => exact quiesceSound_of_not_waits fun h => Bool.noConfusion h.2
  case reset byPin _ => exact quiesceSound_controllerReset byPin
  all_goals exact quiesceSound_of_eq (s := s) rfl rfl hs

theorem Calm.quiesce (h : Calm s t) (hs : QuiesceSound s) : QuiesceSound t := by
  cases h
  case record b r h hm => exact quiesceSound_of_set (s := s) rfl rfl (fun he => he.imp h.ramping.mpr hm) hs
  case join b hb _ hm =>
    refine quiesceSound_of_set (s := s) rfl rfl (fun he => he.elim (fun he => ?_) fun he => absurd he hm) hs
    rw [he] at hb
    cases hb
  case powerOn => exact quiesceSound_of_not_waits fun h => h.1 (by unfold State.powerOnReset; rfl)
  case start mf _ =>
    refine quiesceSound_of (s := s) (by rw [State.startPart_mru, (s.install_control mf).2.2.1]) (fun b h => ?_) hs
    rw [State.startPart_bay, State.install_bay_state, if_neg, State.install_bay_state]
    · exact h
    · rintro ⟨-, he⟩
      rw [he] at h
      rcases h with h | h <;> exact BayState.noConfusion h
  case restart mf _ =>
    refine quiesceSound_of (s := s) (s.install_control mf).2.2.1 (fun b h => ?_) hs
    change (s.install mf).bays[b].state = .ramping ∨ (s.install mf).bays[b].state = .removing
    rw [State.install_bay_state]
    exact h
  case classes c =>
    refine quiesceSound_of (s := s) rfl (fun b h => ?_) hs
    rw [get_ofFn, BayRecord.adoptClass_state]
    exact h
  case lost l _ _ => exact quiesceSound_of_eq (by rw [Lost_mru]) (Lost_bays s l) hs
  all_goals exact quiesceSound_of_eq (s := s) rfl rfl hs

theorem quiesceSound_grant (b : BayId) : QuiesceSound (s.grant b) := fun _ =>
  ⟨b, .inl (by rw [s.grant_eq]; exact congrArg BayRecord.state (get_set_self _ _ _))⟩

theorem Grants.quiesce (h : Grants s t) (hs : QuiesceSound s) : QuiesceSound t := by
  cases h with
  | none => exact hs
  | grant _ b _ _ => exact quiesceSound_grant b

theorem quiesceSound_replyLost (hs : QuiesceSound s) : QuiesceSound s.replyLost := by
  rw [s.replyLost_eq]
  split
  · exact quiesceSound_controllerReset false
  · exact hs

theorem Cut.quiesce (h : Cut s t) (hs : QuiesceSound s) : QuiesceSound t := by
  cases h with
  | emptied l _ _ w hw =>
    have hsame : QuiesceSound { s with liu := l } := hs
    exact quiesceSound_replyLost (hw.quiesce hsame)
  | lost l _ w hw => exact quiesceSound_replyLost (hw.quiesce (quiesceSound_of_eq (by rw [Lost_mru]) (Lost_bays s l) hs))

/-- Once quiesce is reported where it is reached, a part that still waits has a bay to wait for. -/
theorem quiesceSound_reportQuiesce (hs : ControlSound s.reportQuiesce) : QuiesceSound s.reportQuiesce := by
  by_cases hq : s.quiesced = true
  · rcases hm : s.mru.state with _ | ⟨tag, taken⟩ | tag
    case quiescing =>
      rw [State.reportQuiesce_of_quiesced hm hq]
      rcases s.finishRestart_cases tag with ⟨-, -, ht⟩ | ⟨-, ht⟩ <;> rw [ht]
      · exact quiesceSound_of_not_waits fun h => Bool.noConfusion h.2
      · exact quiesceSound_controllerReset false
    all_goals
      rw [State.reportQuiesce_of_not_quiescing (by rw [hm]; exact fun _ _ he => MruState.noConfusion he)]
      exact quiesceSound_of_not_waits fun h => by rw [State.waitsForQuiesce, hm] at h; simp [isSending] at h
  · have hq := Bool.eq_false_iff.mpr hq
    rw [State.reportQuiesce_of_not_quiesced hq] at hs ⊢
    rintro ⟨hm, hsend⟩
    obtain ⟨-, -, -, -, -, -, -, -, h9, -⟩ := hs
    refine not_not.mp fun hn => Bool.eq_false_iff.mp hq (s.quiesced_iff.mpr ⟨h9 hm hsend, fun b => not_or.mp fun hb => hn ⟨b, hb⟩⟩)

theorem Run.quiesce (h : Run s g k t) (hc : LinkControlSound s) (hs : QuiesceSound s) : k = false → QuiesceSound t := by
  induction h with
  | nil => exact fun _ => hs
  | weaken _ _ hk ih => exact fun he => ih (Bool.eq_false_iff.mpr fun h => absurd ((hk h).symm.trans he) (by decide))
  | late _ hu ih => exact fun he => hu.quiesce (ih he)
  | calm _ hu ih => exact fun he => hu.quiesce (ih he)
  | stir => exact fun he => Bool.noConfusion he
  | grant _ b _ _ _ => exact fun _ => quiesceSound_grant b
  | cut _ hu ih => exact fun he => hu.quiesce (ih he)
  | report hrun _ => exact fun _ => quiesceSound_reportQuiesce (hrun.control hc).2
  | settled _ hm _ => exact fun _ => quiesceSound_of_not_waits hm

/-! #### The tick (R182) -/

theorem control_atTick {cmp : Cmp} {n : Nat} (hc : cmp = s.cmp.atTick n) (h : ControlSound s) (hl : t.liu = s.liu)
    (hsame : t.phase = s.phase ∧ t.rstn = s.rstn ∧ t.tb.nextPeriod = s.tb.nextPeriod ∧ t.tb.nextLight = s.tb.nextLight ∧
      t.tb.startTime = s.tb.startTime ∧ t.mru = s.mru ∧ t.psq = s.psq ∧ t.cmp = cmp) : ControlSound t := by
  obtain ⟨h1, h2, h3, h4, h5, h6, h7, h8, h9, h10, h11, h12, h13, h14, h15⟩ := h
  obtain ⟨hphase, hrstn, hperiod, hlight, hstart, hmru, hpsq, hcmp⟩ := hsame
  have hstate : cmp.state = s.cmp.state := by rw [hc, Cmp.atTick_state]
  have hwait : (s.phase = .powerOnLoad ∨ s.phase = .resetLoad → cmp.waitStart.isSome) ∧
      (cmp.waitStart.isSome → s.phase = .powerOnLoad ∨ s.phase = .resetLoad ∨ isSaving s.cmp.state = true) ∧
      (cmp.readStart.isSome → s.phase = .powerOnLoad ∨ s.phase = .resetLoad) := by
    rw [hc]
    rcases s.cmp.atTick_cases n with ⟨hload, -, ⟨start, hstart, -⟩, -, he⟩ | ⟨⟨writes, hsaving⟩, -, -, he⟩ | he <;> rw [he]
    · have hphase := h13 (by rw [hstart]; rfl)
      rw [hload] at hphase
      exact ⟨h12, h13, fun _ => hphase.imp_right fun h => h.resolve_right Bool.false_ne_true⟩
    · exact ⟨fun _ => rfl, fun _ => .inr (.inr (by rw [hsaving]; rfl)), h14⟩
    · exact ⟨h12, h13, h14⟩
  unfold ControlSound
  rw [hl, hphase, hrstn, hperiod, hlight, hstart, hmru, hpsq, hcmp, hstate]
  exact ⟨h1, h2, h3, h4, h5, h6, h7, h8, h9, h10, h11, hwait.1, hwait.2.1, hwait.2.2, h15⟩

/-- Settles O59: each change of a run keeps the LIU and the phases together and the memory by itself, and quiesce is reported before the run ends. -/
theorem stepKeepsControlSound : Obligations.StepKeepsControlSound := by
  intro s t hstep
  rcases step_cases hstep with ⟨-, rfl⟩ | ⟨c, rest, g, -, hrun⟩
  · rw [s.tick_frame]
    refine ⟨fun hs => ?_, fun hmem => ?_⟩
    · obtain ⟨-, -, -, -, -, hlink, hcontrol, -, hquiesce⟩ := hs
      exact ⟨hlink, control_atTick (s := s) rfl hcontrol rfl ⟨rfl, rfl, rfl, rfl, rfl, rfl, rfl, rfl⟩, hquiesce⟩
    · unfold MemorySound
      rw [Cmp.atTick_mem]
      exact hmem
  · refine ⟨fun hs => ?_, fun hmem => hrun.memory hmem⟩
    obtain ⟨-, -, -, -, -, hlink, hcontrol, -, hquiesce⟩ := hs
    have hc : LinkControlSound (s.withPending rest) :=
      SameControl.linked (s := s) ⟨rfl, rfl, Iff.rfl, Iff.rfl, rfl, rfl, rfl, rfl, rfl, Iff.rfl⟩ rfl ⟨hlink, hcontrol⟩
    obtain ⟨hlink', hcontrol'⟩ := hrun.control hc
    exact ⟨hlink', hcontrol', hrun.quiesce hc (quiesceSound_of_eq (s := s) rfl rfl hquiesce) rfl⟩

end Sys2Proof.Machine

/-! ### The tick: what it records and what falls due (R1 to R3, log 1) -/

namespace Sys2Proof.Machine

open Safety

variable {s : State} {c d : Instr} {b : BayId}

/-! #### The CMP's timers (R182, R187, R192) -/

theorem passed_of_reached (o : Option Nat) (now : Nat) : reached o now = true ↔ Passed o 0 now := reached_iff o now

theorem passed_of_elapsed (o : Option Nat) (ms now : Nat) : elapsed o ms now = true ↔ Passed o ms now := elapsed_iff o ms now

theorem Cmp.acknowledges_iff_ready (c : Cmp) (now : Nat) : c.acknowledges now = true ↔ Acknowledges c now := by
  rw [Cmp.acknowledges, Bool.and_eq_true, Bool.not_eq_true', ← Bool.not_eq_true, passed_of_reached, passed_of_reached]

theorem Cmp.answered_iff (c : Cmp) (start now : Nat) : c.answered start now = true ↔ now ≤ start + 10 ∧ Acknowledges c now := by
  rw [Cmp.answered, Bool.and_eq_true, decide_eq_true_eq, Cmp.acknowledges_iff_ready]
  rfl

theorem Cmp.stuckBus_iff (c : Cmp) (now : Nat) : elapsed c.heldLow Config.stuckBusMs now = true ↔ Passed c.heldLow 25 now :=
  passed_of_elapsed _ _ _

theorem Cmp.unanswered_iff_ready (c : Cmp) (start now : Nat) :
    c.unanswered start now = true ↔ start + 10 ≤ now ∧ ¬ (now = start + 10 ∧ Acknowledges c now) := by
  rw [Cmp.unanswered_iff, Cmp.acknowledges_iff_ready]

theorem Cmp.memoryFails_iff_of_loading {c : Cmp} (h : c.state = .loading) (now : Nat) : c.memoryFails now = true ↔ MemoryFails c now := by
  have hfree : isSaving c.state = false := by rw [h]; rfl
  have hne : isSaving c.state ≠ true := by rw [hfree]; decide
  unfold Cmp.memoryFails
  cases hw : c.waitStart with
  | none =>
    rw [h]
    refine iff_of_false (fun he => Bool.noConfusion he) ?_
    rintro (⟨-, hs | hn⟩ | ⟨start, hs, -⟩ | ⟨hs, -⟩)
    · exact hne hs
    · exact hn hw
    · exact absurd (hw.symm.trans hs) (Option.some_ne_none start).symm
    · exact hne hs
  | some start =>
    rw [h]
    simp only [Bool.or_eq_true, Bool.and_eq_true, Option.isNone_iff_eq_none, Cmp.stuckBus_iff, Cmp.unanswered_iff_ready]
    constructor
    · rintro (hheld | ⟨hr, hle, hno⟩)
      · exact .inl ⟨hheld, .inr (by rw [hw]; exact Option.some_ne_none _)⟩
      · exact .inr (.inl ⟨start, hw, hle, hno, .inr hr⟩)
    · rintro (⟨hheld, -⟩ | ⟨start', hs, hle, hno, hr⟩ | ⟨hs, -⟩)
      · exact .inl hheld
      · obtain rfl := Option.some.inj (hw.symm.trans hs)
        exact .inr ⟨hr.resolve_left hne, hle, hno⟩
      · exact absurd hs hne

theorem Cmp.memoryFails_iff_of_saving {c : Cmp} {writes : List SaveWrite} (h : c.state = .saving writes) (now : Nat) :
    c.memoryFails now = true ↔ MemoryFails c now := by
  have hsaving : isSaving c.state = true := by rw [h]; rfl
  unfold Cmp.memoryFails
  cases hw : c.waitStart with
  | none =>
    rw [h]
    simp only [Bool.or_eq_true, Bool.and_eq_true, Cmp.stuckBus_iff, Bool.not_eq_true', ← Bool.not_eq_true, passed_of_reached]
    constructor
    · rintro (hheld | hready)
      · exact .inl ⟨hheld, .inl hsaving⟩
      · exact .inr (.inr ⟨hsaving, hw, hready⟩)
    · rintro (⟨hheld, -⟩ | ⟨start, hs, -⟩ | ⟨-, -, hready⟩)
      · exact .inl hheld
      · exact absurd (hw.symm.trans hs) (Option.some_ne_none start).symm
      · exact .inr hready
  | some start =>
    rw [h]
    simp only [Bool.or_eq_true, Cmp.stuckBus_iff, Cmp.unanswered_iff_ready]
    constructor
    · rintro (hheld | ⟨hle, hno⟩)
      · exact .inl ⟨hheld, .inl hsaving⟩
      · exact .inr (.inl ⟨start, hw, hle, hno, .inl hsaving⟩)
    · rintro (⟨hheld, -⟩ | ⟨start', hs, hle, hno, -⟩ | ⟨-, hn, -⟩)
      · exact .inl hheld
      · obtain rfl := Option.some.inj (hw.symm.trans hs)
        exact .inr ⟨hle, hno⟩
      · exact absurd (hw.symm.trans hn) (Option.some_ne_none start)

theorem Cmp.readEnds_iff (c : Cmp) (now : Nat) : c.readEnds now = true ↔ ReadingEnds c now := by
  unfold Cmp.readEnds ReadingEnds
  cases c.readStart with
  | none => simp
  | some read =>
    rw [Bool.or_eq_true, passed_of_elapsed, Bool.and_eq_true, decide_eq_true_eq, decide_eq_true_eq]
    exact ⟨fun h => ⟨read, rfl, h⟩, fun ⟨read', he, h⟩ => by cases he; exact h⟩

theorem Cmp.acknowledgeDue_iff_ready (c : Cmp) (now : Nat) :
    c.acknowledgeDue now = true ↔ ∃ start, c.waitStart = some start ∧ start + 5 ≤ now ∧ now ≤ start + 10 ∧ Acknowledges c now := by
  simp only [Cmp.acknowledgeDue_iff, Cmp.acknowledges_iff_ready]

theorem isSaving_iff (x : CmpState) : isSaving x = true ↔ ∃ writes, x = .saving writes := by
  cases x <;> simp [isSaving]

theorem Cmp.atTick_waitStart (c : Cmp) (now : Nat) :
    (c.atTick now).waitStart =
      if isSaving c.state = true ∧ c.waitStart = none ∧ Acknowledges c now then some now else c.waitStart := by
  unfold Cmp.atTick
  split
  · next start hs _ =>
    have hnot : ¬ (isSaving c.state = true ∧ c.waitStart = none ∧ Acknowledges c now) := fun h => by
      rw [hs] at h
      exact Bool.noConfusion h.1
    rw [if_neg hnot]
    split <;> rfl
  · next writes hs hw =>
    by_cases hready : c.acknowledges now = true
    · rw [if_pos hready, if_pos ⟨by rw [hs]; rfl, hw, (c.acknowledges_iff_ready now).mp hready⟩]
    · rw [if_neg hready, if_neg fun h => hready ((c.acknowledges_iff_ready now).mpr h.2.2)]
  · next hload hsave =>
    refine (if_neg ?_).symm
    rintro ⟨hs, hw, -⟩
    obtain ⟨writes, hs⟩ := (isSaving_iff _).mp hs
    exact hsave writes hs hw

theorem Cmp.atTick_readStart (c : Cmp) (now : Nat) :
    (c.atTick now).readStart =
      if c.state = .loading ∧ c.readStart = none ∧ (∃ start, c.waitStart = some start ∧ now ≤ start + 10) ∧ Acknowledges c now then some now
      else c.readStart := by
  unfold Cmp.atTick
  split
  · next start hs hw =>
    have hcond : (c.readStart.isNone && c.answered start now) = true ↔
        c.state = .loading ∧ c.readStart = none ∧ (∃ start, c.waitStart = some start ∧ now ≤ start + 10) ∧ Acknowledges c now := by
      rw [Bool.and_eq_true, Option.isNone_iff_eq_none, Cmp.answered_iff]
      refine ⟨fun ⟨hr, hle, hready⟩ => ⟨hs, hr, ⟨start, hw, hle⟩, hready⟩, fun ⟨_, hr, ⟨start', hw', hle⟩, hready⟩ => ?_⟩
      obtain rfl := Option.some.inj (hw.symm.trans hw')
      exact ⟨hr, hle, hready⟩
    split
    · next h => rw [if_pos (hcond.mp h)]
    · next h => rw [if_neg fun h' => h (hcond.mpr h')]
  · next writes hs _ =>
    have hnot : ¬ (c.state = .loading ∧ c.readStart = none ∧ (∃ start, c.waitStart = some start ∧ now ≤ start + 10) ∧ Acknowledges c now) :=
      fun h => CmpState.noConfusion (hs.symm.trans h.1)
    rw [if_neg hnot]
    split <;> rfl
  · next hload _ =>
    refine (if_neg ?_).symm
    rintro ⟨hs, -, ⟨start, hw, -⟩, -⟩
    exact hload start hs hw

/-! #### The events of a tick, block by block -/

theorem mem_dueIf (p : Bool) (i : Instr) : c ∈ dueIf p i ↔ c = i ∧ p = true := by
  cases p <;> simp [dueIf]

theorem mem_fltEvents (b : BayId) (r : BayRecord) (i : BayInput) :
    c ∈ fltEvents b r i ↔
      (c = .qualifiedFltAssertion b ∧ ((i.flt = false ∧ i.fltPin = true ∧ i.fltLast = some true) ∨
        (i.flt = true ∧ r.state = .ramping ∧ ¬ (i.fltPin = false ∧ i.fltLast = some false)))) ∨
      (c = .qualifiedFltDeassertion b ∧ i.flt = true ∧ i.fltPin = false ∧ i.fltLast = some false) := by
  unfold fltEvents
  cases hq : i.flt with
  | false => cases hp : i.fltPin <;> simp [and_comm]
  | true =>
    cases hp : i.fltPin with
    | true => simp [and_comm]
    | false =>
      by_cases hl : i.fltLast = some false
      · simp [hl]
      · simp [hl, and_comm]

theorem mem_pgEvents (b : BayId) (i : BayInput) :
    c ∈ pgEvents b i ↔
      (c = .qualifiedPgAssertion b ∧ i.pg = false ∧ i.pgPin = true ∧ i.pgLast = some true) ∨
      (c = .qualifiedPgDeassertion b ∧ i.pg = true ∧ i.pgPin = false ∧ i.pgLast = some false) := by
  unfold pgEvents
  cases i.pg <;> cases i.pgPin <;> simp [and_comm]

theorem mem_presEvents (b : BayId) (r : BayRecord) (i : BayInput) (n : Nat) :
    c ∈ presEvents b r i n ↔
      (c = .qualifiedInsertion b ∧ r.state = .empty ∧ i.presPin = true ∧ i.presLast = some true) ∨
      (c = .settlingBounce b ∧ r.state = .settling ∧ i.presPin = false) ∨
      (c = .qualifiedRemoval b ∧ r.state ≠ .empty ∧ r.state ≠ .settling ∧ i.presPin = false ∧ n ≤ i.removalCount + 1) := by
  unfold presEvents
  cases hs : r.state <;> simp [and_comm]

/-- The events of a bay at a tick (R1 to R3, R14, R17, R21, R64, R111). -/
theorem State.mem_bayDue (s : State) (b : BayId) :
    c ∈ s.bayDue b ↔
      c ∈ fltEvents b s.bays[b] s.inputs[b] ∨ c ∈ pgEvents b s.inputs[b] ∨
      (c = .pgDeadline b ∧ s.bays[b].state = .ramping ∧ Passed s.bays[b].pgDeadline 0 s.now) ∨
      (c = .rampDeadline b ∧ s.bays[b].state = .ramping ∧ Passed s.bays[b].rampDeadline 0 s.now) ∨
      c ∈ presEvents b s.bays[b] s.inputs[b] s.tables.limits.removalDebounce ∨
      (c = .insertionDebounceExpiry b ∧ s.bays[b].state = .settling ∧ Passed s.inputs[b].settleStart (s.tables.limits.insertionDebounce * 10) s.now) ∨
      (c = .drainExpiry b ∧ s.bays[b].state = .removing ∧ Passed s.bays[b].drainDeadline 0 s.now) ∨
      (c = .backoffExpiry b ∧ s.bays[b].state = .powerFault ∧ Passed s.bays[b].backoffDeadline 0 s.now) ∨
      (c = .driveAgeExpiry b ∧ s.drives[b].state = .valid ∧ Passed s.drives[b].reportTime (s.tables.link.driveAgeLimit * 1000) s.now) ∨
      (c = .activityStretchExpiry b ∧ Passed s.smap[b].stretch 0 s.now) := by
  simp only [State.bayDue, List.mem_append, mem_dueIf, Bool.and_eq_true, decide_eq_true_eq, passed_of_reached, passed_of_elapsed, or_assoc]

/-- The events of the LIU's timers (R137, R139, R145, R162). -/
theorem State.mem_linkDue (s : State) :
    c ∈ s.linkDue ↔
      (c = .outstandingDeadline ∧ ∃ e rest, s.liu.outstanding = e :: rest ∧ e.deadline ≤ s.now) ∨
      (c = .silenceTimeout ∧ s.liu.link = .aligned ∧ Passed s.liu.silenceStart 50 s.now) ∨
      (c = .autonomyTimeout ∧ s.liu.link = .silent ∧ Passed s.liu.silenceStart (s.tables.link.autonomyTimeout * 1000) s.now) ∨
      (c = .lostLatchSet ∧ s.liu.link = .fault ∧ s.liu.lostLatch = false ∧
        Passed s.liu.silenceStart (s.tables.link.autonomyTimeout * 1000) s.now) ∨
      (c = .probeTimeout ∧ s.liu.port = .probing ∧ Passed s.liu.probeStart 10 s.now) ∨
      (c = .probeRetry ∧ s.liu.port = .absent ∧ s.liu.link = .aligned ∧ Passed s.liu.retryDue 0 s.now) ∨
      (c = .returnWatchTimeout ∧ s.liu.port = .aligned ∧ Passed s.liu.returnWatch 50 s.now) := by
  have holdest : s.oldestDue = true ↔ ∃ e rest, s.liu.outstanding = e :: rest ∧ e.deadline ≤ s.now := by
    unfold State.oldestDue
    cases s.liu.outstanding <;> simp
  simp only [State.linkDue, List.mem_append, mem_dueIf, Bool.and_eq_true, decide_eq_true_eq, Bool.not_eq_true', passed_of_reached,
    passed_of_elapsed, holdest, State.autonomyPassed, or_assoc, and_assoc]
  exact Iff.rfl

theorem State.mem_periodDue (s : State) :
    c ∈ s.periodDue ↔
      (∃ k, c = .sensorConversion k s.therm[k] ∧ Passed s.tb.nextPeriod 0 s.now ∧ s.converted ≤ k.castSucc) ∨
      (c = .controlPeriodEnd ∧ Passed s.tb.nextPeriod 0 s.now) := by
  unfold State.periodDue
  split
  · next h =>
    have hp := (passed_of_reached _ _).mp h
    simp only [List.mem_append, List.mem_map, List.mem_filter, List.mem_finRange, true_and, decide_eq_true_eq, List.mem_singleton]
    refine or_congr (exists_congr fun k => ?_) (iff_self_and.mpr fun _ => hp)
    exact ⟨fun ⟨hk, he⟩ => ⟨he.symm, hp, hk⟩, fun ⟨he, _, hk⟩ => ⟨hk, he.symm⟩⟩
  · next h =>
    have hp : ¬ Passed s.tb.nextPeriod 0 s.now := fun hp => h ((passed_of_reached _ _).mpr hp)
    refine iff_of_false List.not_mem_nil ?_
    rintro (⟨k, -, h, -⟩ | ⟨-, h⟩) <;> exact hp h

/-- What the memory brings at a tick, to a load and to a save (R182, R187, R192). -/
theorem State.memoryDue_of_loading {s : State} (h : s.cmp.state = .loading) :
    s.memoryDue = if s.cmp.memoryFails s.now then [.loadCompletion true] else dueIf (s.cmp.readEnds s.now) (.loadCompletion false) := by
  rw [State.memoryDue, h]

theorem State.memoryDue_of_saving {s : State} {writes : List SaveWrite} (h : s.cmp.state = .saving writes) :
    s.memoryDue = dueIf (s.cmp.memoryFails s.now) .saveFailed ++ dueIf (s.cmp.acknowledgeDue s.now) .saveWriteAcknowledged := by
  rw [State.memoryDue, h]

theorem State.memoryDue_of_idle {s : State} (h : s.cmp.state = .idle) : s.memoryDue = [] := by
  rw [State.memoryDue, h]

theorem State.mem_memoryDue (s : State) :
    c ∈ s.memoryDue ↔
      (c = .loadCompletion true ∧ s.cmp.state = .loading ∧ MemoryFails s.cmp s.now) ∨
      (c = .loadCompletion false ∧ s.cmp.state = .loading ∧ ¬ MemoryFails s.cmp s.now ∧ ReadingEnds s.cmp s.now) ∨
      (c = .saveFailed ∧ isSaving s.cmp.state = true ∧ MemoryFails s.cmp s.now) ∨
      (c = .saveWriteAcknowledged ∧ isSaving s.cmp.state = true ∧
        ∃ start, s.cmp.waitStart = some start ∧ start + 5 ≤ s.now ∧ s.now ≤ start + 10 ∧ Acknowledges s.cmp s.now) := by
  rw [← s.cmp.readEnds_iff, ← s.cmp.acknowledgeDue_iff_ready]
  rcases h : s.cmp.state with _ | _ | writes
  case idle => simp [State.memoryDue_of_idle h, isSaving]
  case loading =>
    rw [State.memoryDue_of_loading h, ← Cmp.memoryFails_iff_of_loading h]
    split
    · next hf => simp [hf, isSaving]
    · next hf => simp [mem_dueIf, hf, isSaving]
  case saving =>
    rw [State.memoryDue_of_saving h, ← Cmp.memoryFails_iff_of_saving h]
    simp [mem_dueIf, isSaving]

theorem State.quiesceLimitDue_iff (s : State) :
    s.quiesceLimitDue = true ↔ ∃ tag taken, s.mru.state = .quiescing tag taken ∧ taken + 60000 ≤ s.now := by
  unfold State.quiesceLimitDue
  cases s.mru.state with
  | quiescing tag taken =>
    rw [decide_eq_true_eq]
    exact ⟨fun h => ⟨tag, taken, rfl, h⟩, fun ⟨_, _, he, h⟩ => by cases he; exact h⟩
  | idle => simp
  | sending => simp

/-- Everything that falls due at a tick, block by block. -/
theorem State.mem_due (s : State) :
    c ∈ s.due ↔
      (∃ b, c ∈ s.bayDue b) ∨ (c = .quiesceLimit ∧ ∃ tag taken, s.mru.state = .quiescing tag taken ∧ taken + 60000 ≤ s.now) ∨
      c ∈ s.periodDue ∨
      (∃ z, (c = .shedDelayReached z ∧ ∃ start, s.psq.shed[z] = .delay start ∧ start + s.tables.zones[z].shedDelay * 1000 ≤ s.now) ∨
        (c = .shedIntervalReached z ∧ ∃ start, s.psq.shed[z] = .interval start ∧ start + s.tables.zones[z].shedInterval * 1000 ≤ s.now)) ∨
      (c = .staggerExpiry ∧ ∃ start, s.psq.stagger = some start ∧ start < s.now ∧ start + s.tables.limits.stagger * 10 ≤ s.now) ∨
      c ∈ s.linkDue ∨ c ∈ s.memoryDue ∨ (c = .lightTick ∧ Passed s.tb.nextLight 0 s.now) := by
  simp only [State.due, List.mem_append, List.mem_flatMap, List.mem_finRange, true_and, mem_dueIf, passed_of_reached, State.quiesceLimitDue_iff,
    State.staggerExpires_iff, State.shedDelayPassed_iff, State.shedIntervalPassed_iff, or_assoc]
  exact Iff.rfl

/-- Every command that the tick queues falls due. -/
theorem State.fallsDue_of_mem_bayDue {s : State} (h : c ∈ s.bayDue b) : FallsDue s s.now c := by
  rcases (s.mem_bayDue b).mp h with h | h | ⟨rfl, due⟩ | ⟨rfl, due⟩ | h | ⟨rfl, due⟩ | ⟨rfl, due⟩ | ⟨rfl, due⟩ | ⟨rfl, due⟩ | ⟨rfl, due⟩
  case inl => rcases (mem_fltEvents _ _ _).mp h with ⟨rfl, due⟩ | ⟨rfl, due⟩ <;> exact due
  case inr.inl => rcases (mem_pgEvents _ _).mp h with ⟨rfl, due⟩ | ⟨rfl, due⟩ <;> exact due
  case inr.inr.inr.inr.inl => rcases (mem_presEvents _ _ _ _).mp h with ⟨rfl, due⟩ | ⟨rfl, due⟩ | ⟨rfl, due⟩ <;> exact due
  all_goals exact due

theorem State.fallsDue_of_mem {s : State} (h : c ∈ s.due) : FallsDue s s.now c := by
  rcases s.mem_due.mp h with ⟨b, h⟩ | ⟨rfl, due⟩ | h | ⟨z, ⟨rfl, due⟩ | ⟨rfl, due⟩⟩ | ⟨rfl, due⟩ | h | h | ⟨rfl, due⟩
  case inl => exact State.fallsDue_of_mem_bayDue h
  case inr.inr.inl =>
    rcases s.mem_periodDue.mp h with ⟨k, rfl, hp, hk⟩ | ⟨rfl, due⟩
    · exact ⟨hp, hk, rfl⟩
    · exact due
  case inr.inr.inr.inr.inr.inl =>
    rcases s.mem_linkDue.mp h with ⟨rfl, due⟩ | ⟨rfl, due⟩ | ⟨rfl, due⟩ | ⟨rfl, due⟩ | ⟨rfl, due⟩ | ⟨rfl, due⟩ | ⟨rfl, due⟩ <;> exact due
  case inr.inr.inr.inr.inr.inr.inl =>
    rcases s.mem_memoryDue.mp h with ⟨rfl, hs, due⟩ | ⟨rfl, hs, due⟩ | ⟨rfl, due⟩ | ⟨rfl, due⟩
    · exact ⟨hs, .inl ⟨rfl, due⟩⟩
    · exact ⟨hs, .inr ⟨rfl, due⟩⟩
    · exact due
    · exact due
  all_goals exact due

/-- The levels of a bay that a tick qualifies stand in the bay's FLT and PG events, and what PRES gives in its PRES events. -/
theorem State.mem_of_fallsDue_bay {s : State} {t : Nat} :
    (FallsDue s t (.qualifiedFltAssertion b) → .qualifiedFltAssertion b ∈ fltEvents b s.bays[b] s.inputs[b]) ∧
    (FallsDue s t (.qualifiedFltDeassertion b) → .qualifiedFltDeassertion b ∈ fltEvents b s.bays[b] s.inputs[b]) ∧
    (FallsDue s t (.qualifiedPgAssertion b) → .qualifiedPgAssertion b ∈ pgEvents b s.inputs[b]) ∧
    (FallsDue s t (.qualifiedPgDeassertion b) → .qualifiedPgDeassertion b ∈ pgEvents b s.inputs[b]) ∧
    (FallsDue s t (.qualifiedInsertion b) → .qualifiedInsertion b ∈ presEvents b s.bays[b] s.inputs[b] s.tables.limits.removalDebounce) ∧
    (FallsDue s t (.settlingBounce b) → .settlingBounce b ∈ presEvents b s.bays[b] s.inputs[b] s.tables.limits.removalDebounce) ∧
    (FallsDue s t (.qualifiedRemoval b) → .qualifiedRemoval b ∈ presEvents b s.bays[b] s.inputs[b] s.tables.limits.removalDebounce) :=
  ⟨fun h => (mem_fltEvents _ _ _).mpr (.inl ⟨rfl, h⟩), fun h => (mem_fltEvents _ _ _).mpr (.inr ⟨rfl, h⟩),
    fun h => (mem_pgEvents _ _).mpr (.inl ⟨rfl, h⟩), fun h => (mem_pgEvents _ _).mpr (.inr ⟨rfl, h⟩),
    fun h => (mem_presEvents _ _ _ _).mpr (.inl ⟨rfl, h⟩), fun h => (mem_presEvents _ _ _ _).mpr (.inr (.inl ⟨rfl, h⟩)),
    fun h => (mem_presEvents _ _ _ _).mpr (.inr (.inr ⟨rfl, h⟩))⟩

/-- Every command that falls due is queued by the tick. -/
theorem State.mem_of_fallsDue {s : State} (h : FallsDue s s.now c) : c ∈ s.due := by
  have bay {x : Instr} {y : BayId} (hx : x ∈ s.bayDue y) : x ∈ s.due := s.mem_due.mpr (.inl ⟨y, hx⟩)
  have link {x : Instr} (hx : x ∈ s.linkDue) : x ∈ s.due := s.mem_due.mpr (.inr (.inr (.inr (.inr (.inr (.inl hx))))))
  have memory {x : Instr} (hx : x ∈ s.memoryDue) : x ∈ s.due := s.mem_due.mpr (.inr (.inr (.inr (.inr (.inr (.inr (.inl hx)))))))
  have period {x : Instr} (hx : x ∈ s.periodDue) : x ∈ s.due := s.mem_due.mpr (.inr (.inr (.inl hx)))
  have level (y : BayId) := State.mem_of_fallsDue_bay (b := y) (s := s) (t := s.now)
  cases c
  case qualifiedFltAssertion b => exact bay ((s.mem_bayDue b).mpr (.inl ((level b).1 h)))
  case qualifiedFltDeassertion b => exact bay ((s.mem_bayDue b).mpr (.inl ((level b).2.1 h)))
  case qualifiedPgAssertion b => exact bay ((s.mem_bayDue b).mpr (.inr (.inl ((level b).2.2.1 h))))
  case qualifiedPgDeassertion b => exact bay ((s.mem_bayDue b).mpr (.inr (.inl ((level b).2.2.2.1 h))))
  case pgDeadline b => exact bay ((s.mem_bayDue b).mpr (.inr (.inr (.inl ⟨rfl, h⟩))))
  case rampDeadline b => exact bay ((s.mem_bayDue b).mpr (.inr (.inr (.inr (.inl ⟨rfl, h⟩)))))
  case qualifiedInsertion b => exact bay ((s.mem_bayDue b).mpr (.inr (.inr (.inr (.inr (.inl ((level b).2.2.2.2.1 h)))))))
  case settlingBounce b => exact bay ((s.mem_bayDue b).mpr (.inr (.inr (.inr (.inr (.inl ((level b).2.2.2.2.2.1 h)))))))
  case qualifiedRemoval b => exact bay ((s.mem_bayDue b).mpr (.inr (.inr (.inr (.inr (.inl ((level b).2.2.2.2.2.2 h)))))))
  case insertionDebounceExpiry b => exact bay ((s.mem_bayDue b).mpr (.inr (.inr (.inr (.inr (.inr (.inl ⟨rfl, h⟩)))))))
  case drainExpiry b => exact bay ((s.mem_bayDue b).mpr (.inr (.inr (.inr (.inr (.inr (.inr (.inl ⟨rfl, h⟩))))))))
  case backoffExpiry b => exact bay ((s.mem_bayDue b).mpr (.inr (.inr (.inr (.inr (.inr (.inr (.inr (.inl ⟨rfl, h⟩)))))))))
  case driveAgeExpiry b => exact bay ((s.mem_bayDue b).mpr (.inr (.inr (.inr (.inr (.inr (.inr (.inr (.inr (.inl ⟨rfl, h⟩))))))))))
  case activityStretchExpiry b => exact bay ((s.mem_bayDue b).mpr (.inr (.inr (.inr (.inr (.inr (.inr (.inr (.inr (.inr ⟨rfl, h⟩))))))))))
  case quiesceLimit => exact s.mem_due.mpr (.inr (.inl ⟨rfl, h⟩))
  case sensorConversion k reading =>
    obtain ⟨hp, hk, rfl⟩ := h
    exact period (s.mem_periodDue.mpr (.inl ⟨k, rfl, hp, hk⟩))
  case controlPeriodEnd => exact period (s.mem_periodDue.mpr (.inr ⟨rfl, h⟩))
  case shedDelayReached z => exact s.mem_due.mpr (.inr (.inr (.inr (.inl ⟨z, .inl ⟨rfl, h⟩⟩))))
  case shedIntervalReached z => exact s.mem_due.mpr (.inr (.inr (.inr (.inl ⟨z, .inr ⟨rfl, h⟩⟩))))
  case staggerExpiry => exact s.mem_due.mpr (.inr (.inr (.inr (.inr (.inl ⟨rfl, h⟩)))))
  case outstandingDeadline => exact link (s.mem_linkDue.mpr (.inl ⟨rfl, h⟩))
  case silenceTimeout => exact link (s.mem_linkDue.mpr (.inr (.inl ⟨rfl, h⟩)))
  case autonomyTimeout => exact link (s.mem_linkDue.mpr (.inr (.inr (.inl ⟨rfl, h⟩))))
  case lostLatchSet => exact link (s.mem_linkDue.mpr (.inr (.inr (.inr (.inl ⟨rfl, h⟩)))))
  case probeTimeout => exact link (s.mem_linkDue.mpr (.inr (.inr (.inr (.inr (.inl ⟨rfl, h⟩))))))
  case probeRetry => exact link (s.mem_linkDue.mpr (.inr (.inr (.inr (.inr (.inr (.inl ⟨rfl, h⟩)))))))
  case returnWatchTimeout => exact link (s.mem_linkDue.mpr (.inr (.inr (.inr (.inr (.inr (.inr ⟨rfl, h⟩)))))))
  case lightTick => exact s.mem_due.mpr (.inr (.inr (.inr (.inr (.inr (.inr (.inr ⟨rfl, h⟩)))))))
  case loadCompletion mf =>
    obtain ⟨hs, ⟨rfl, hf⟩ | ⟨rfl, hf⟩⟩ := h
    · exact memory (s.mem_memoryDue.mpr (.inl ⟨rfl, hs, hf⟩))
    · exact memory (s.mem_memoryDue.mpr (.inr (.inl ⟨rfl, hs, hf⟩)))
  case saveFailed => exact memory (s.mem_memoryDue.mpr (.inr (.inr (.inl ⟨rfl, h⟩))))
  case saveWriteAcknowledged => exact memory (s.mem_memoryDue.mpr (.inr (.inr (.inr ⟨rfl, h⟩))))
  all_goals exact h.elim

/-! #### The order of what falls due together (R1, R2, R14 to R16, log 31) -/

/-- In the list, c stands before d. -/
abbrev StandsBefore (l : List Instr) (c d : Instr) : Prop := ∃ front mid back : List Instr, l = front ++ c :: mid ++ d :: back

theorem standsBefore_of_mem {l front xs ys back : List Instr} (h : l = front ++ (xs ++ ys) ++ back) (hc : c ∈ xs) (hd : d ∈ ys) : StandsBefore l c d := by
  obtain ⟨xs₁, xs₂, rfl⟩ := List.append_of_mem hc
  obtain ⟨ys₁, ys₂, rfl⟩ := List.append_of_mem hd
  exact ⟨front ++ xs₁, xs₂ ++ ys₁, ys₂ ++ back, by rw [h]; simp⟩

/-- The events of a bay stand together in what falls due. -/
theorem State.due_split (s : State) (b : BayId) : ∃ front back, s.due = front ++ s.bayDue b ++ back := by
  obtain ⟨bs₁, bs₂, hb⟩ := List.append_of_mem (List.mem_finRange b)
  refine ⟨bs₁.flatMap s.bayDue, ?_, ?_⟩
  rotate_left
  · rw [State.due, hb, List.flatMap_append, List.flatMap_cons]
    simp only [List.append_assoc]
    rfl

/-- A period end stands right behind those of its conversions that have not completed. -/
theorem State.due_period {s : State} (h : Passed s.tb.nextPeriod 0 s.now) :
    ∃ front back : List Instr, s.due = front ++
      ((List.finRange 4).filter fun k => decide (s.converted ≤ k.castSucc)).map (fun k => .sensorConversion k s.therm[k]) ++ .controlPeriodEnd :: back := by
  have hperiod : s.periodDue =
      ((List.finRange 4).filter fun k => decide (s.converted ≤ k.castSucc)).map (fun k => .sensorConversion k s.therm[k]) ++ [.controlPeriodEnd] :=
    if_pos ((passed_of_reached _ _).mpr h)
  refine ⟨(List.finRange 24).flatMap s.bayDue ++ dueIf s.quiesceLimitDue .quiesceLimit, ?_, ?_⟩
  rotate_left
  · rw [State.due, hperiod]
    simp only [List.append_assoc, List.singleton_append]
    rfl

/-- The FLT and PG events of a bay at a tick. -/
def State.levelEvents (s : State) (b : BayId) : List Instr := fltEvents b s.bays[b] s.inputs[b] ++ pgEvents b s.inputs[b]

/-- The PRES events of a bay at a tick. -/
def State.presDue (s : State) (b : BayId) : List Instr := presEvents b s.bays[b] s.inputs[b] s.tables.limits.removalDebounce

def State.pgDue (s : State) (b : BayId) : List Instr :=
  dueIf (decide (s.bays[b].state = .ramping) && reached s.bays[b].pgDeadline s.now) (.pgDeadline b)

def State.rampDue (s : State) (b : BayId) : List Instr :=
  dueIf (decide (s.bays[b].state = .ramping) && reached s.bays[b].rampDeadline s.now) (.rampDeadline b)

def State.settleDue (s : State) (b : BayId) : List Instr :=
  dueIf (decide (s.bays[b].state = .settling) && elapsed s.inputs[b].settleStart (s.tables.limits.insertionDebounce * 10) s.now)
    (.insertionDebounceExpiry b)

/-- The events of a bay in their order, as far as the rules give one. -/
theorem State.bayDue_split (s : State) (b : BayId) :
    ∃ back, s.bayDue b = s.levelEvents b ++ (s.pgDue b ++ (s.rampDue b ++ (s.presDue b ++ (s.settleDue b ++ back)))) := by
  refine ⟨?_, ?_⟩
  rotate_left
  · simp only [State.bayDue, State.levelEvents, State.pgDue, State.rampDue, State.presDue, State.settleDue, List.append_assoc]
    rfl

theorem State.mem_deadlines_of_fallsDue {s : State} :
    (FallsDue s s.now (.pgDeadline b) → .pgDeadline b ∈ s.pgDue b) ∧ (FallsDue s s.now (.rampDeadline b) → .rampDeadline b ∈ s.rampDue b) ∧
    (FallsDue s s.now (.insertionDebounceExpiry b) → .insertionDebounceExpiry b ∈ s.settleDue b) := by
  simp only [State.pgDue, State.rampDue, State.settleDue, mem_dueIf, Bool.and_eq_true, decide_eq_true_eq, passed_of_reached, passed_of_elapsed, true_and]
  exact ⟨id, id, id⟩

/-- A bay's faults stand before its ramp completion and its removal (R14 to R16), its levels before the two deadlines that read them (R1, R14), and a bounce before the
debounce it abandons (R2). -/
theorem State.due_order (s : State) (b : BayId) :
    (∀ c ∈ s.levelEvents b ++ s.pgDue b, ∀ d ∈ s.rampDue b ++ s.presDue b, StandsBefore s.due c d) ∧
    (∀ c ∈ s.levelEvents b, ∀ d ∈ s.pgDue b ++ s.rampDue b, StandsBefore s.due c d) ∧
    (∀ c ∈ s.presDue b, ∀ d ∈ s.settleDue b, StandsBefore s.due c d) := by
  obtain ⟨front, back, hdue⟩ := s.due_split b
  obtain ⟨rest, hbay⟩ := s.bayDue_split b
  rw [hbay] at hdue
  refine ⟨fun c hc d hd => ?_, fun c hc d hd => ?_, fun c hc d hd => ?_⟩
  · exact standsBefore_of_mem (front := front) (back := s.settleDue b ++ rest ++ back) (by rw [hdue]; simp only [List.append_assoc]) hc hd
  · exact standsBefore_of_mem (front := front) (back := s.presDue b ++ (s.settleDue b ++ rest) ++ back) (by rw [hdue]; simp only [List.append_assoc]) hc hd
  · exact standsBefore_of_mem (front := front ++ s.levelEvents b ++ s.pgDue b ++ s.rampDue b) (back := rest ++ back)
      (by rw [hdue]; simp only [List.append_assoc]) hc hd

/-! #### The tick (log 1) -/

/-- The part at the tick, its time moved on. -/
def State.atNextMs (s : State) : State := { s with tb := { s.tb with now := s.tb.now + 1 } }

theorem State.tick_of_sampling {s : State} (h : s.sampling = true) :
    s.tick = { s with
      tb := { s.tb with now := s.tb.now + 1 }
      cmp := s.cmp.atTick (s.tb.now + 1), inputs := Vector.ofFn fun b => (s.inputs[b]).sampled s.bays[b], pending := s.pending ++ s.atNextMs.due } :=
  if_pos h

theorem State.tick_of_not_sampling {s : State} (h : s.sampling = false) :
    s.tick = { s with
      tb := { s.tb with now := s.tb.now + 1 }, cmp := s.cmp.atTick (s.tb.now + 1), pending := s.pending ++ s.atNextMs.memoryDue } :=
  if_neg (by rw [h]; decide)

/-- Only the completion of a load falls due before the start of the part. -/
theorem State.memoryDue_of_not_saving {s : State} (h : isSaving s.cmp.state = false) :
    s.memoryDue =
      if s.cmp.state = .loading ∧ MemoryFails s.cmp s.now then [.loadCompletion true]
      else if s.cmp.state = .loading ∧ ReadingEnds s.cmp s.now then [.loadCompletion false]
      else [] := by
  by_cases hload : s.cmp.state = .loading
  · rw [State.memoryDue_of_loading hload]
    simp only [Cmp.memoryFails_iff_of_loading hload, dueIf, Cmp.readEnds_iff, hload, true_and]
  · rw [if_neg fun h => hload h.1, if_neg fun h => hload h.1]
    cases hs : s.cmp.state with
    | idle => exact State.memoryDue_of_idle hs
    | loading => exact absurd hs hload
    | saving writes => rw [hs] at h; cases h

theorem BayInput.sampled_eq (i : BayInput) (r : BayRecord) :
    i.sampled r = { i with
      presLast := some i.presPin, pgLast := some i.pgPin, fltLast := some i.fltPin
      removalCount := if r.state ≠ .empty ∧ r.state ≠ .settling ∧ i.presPin = false then i.removalCount + 1 else 0 } := by
  unfold BayInput.sampled countRemoval
  simp only [BayState.removable_iff, and_assoc]

/-- What the statement on the tick says of the queue, for a part that samples its inputs. -/
theorem State.due_ordered (s : State) (b : BayId) :
    (∀ c ∈ [Instr.qualifiedFltAssertion b, .qualifiedPgDeassertion b, .pgDeadline b], ∀ d ∈ [Instr.rampDeadline b, .qualifiedRemoval b],
      c ∈ s.due → d ∈ s.due → StandsBefore s.due c d) ∧
    (∀ c ∈ [Instr.qualifiedFltAssertion b, .qualifiedFltDeassertion b, .qualifiedPgAssertion b, .qualifiedPgDeassertion b],
      ∀ d ∈ [Instr.pgDeadline b, .rampDeadline b], c ∈ s.due → d ∈ s.due → StandsBefore s.due c d) ∧
    (∀ c ∈ [Instr.settlingBounce b], ∀ d ∈ [Instr.insertionDebounceExpiry b], c ∈ s.due → d ∈ s.due → StandsBefore s.due c d) := by
  obtain ⟨hfault, hlevel, hbounce⟩ := s.due_order b
  obtain ⟨fltOn, fltOff, pgOn, pgOff, -, bounce, removal⟩ := State.mem_of_fallsDue_bay (b := b) (s := s) (t := s.now)
  obtain ⟨pgEnd, rampEnd, settleEnd⟩ := State.mem_deadlines_of_fallsDue (b := b) (s := s)
  have due {c : Instr} (h : c ∈ s.due) : FallsDue s s.now c := State.fallsDue_of_mem h
  simp only [List.mem_cons, List.not_mem_nil, or_false]
  refine ⟨?fault, ?level, ?bounce⟩
  case fault =>
    refine fun c hc d hd hcd hdd => hfault c ?_ d ?_
    · rcases hc with rfl | rfl | rfl
      · exact List.mem_append_left _ (List.mem_append_left _ (fltOn (due hcd)))
      · exact List.mem_append_left _ (List.mem_append_right _ (pgOff (due hcd)))
      · exact List.mem_append_right _ (pgEnd (due hcd))
    · rcases hd with rfl | rfl
      · exact List.mem_append_left _ (rampEnd (due hdd))
      · exact List.mem_append_right _ (removal (due hdd))
  case level =>
    refine fun c hc d hd hcd hdd => hlevel c ?_ d ?_
    · rcases hc with rfl | rfl | rfl | rfl
      · exact List.mem_append_left _ (fltOn (due hcd))
      · exact List.mem_append_left _ (fltOff (due hcd))
      · exact List.mem_append_right _ (pgOn (due hcd))
      · exact List.mem_append_right _ (pgOff (due hcd))
    · rcases hd with rfl | rfl
      · exact List.mem_append_left _ (pgEnd (due hdd))
      · exact List.mem_append_right _ (rampEnd (due hdd))
  case bounce =>
    rintro c rfl d rfl hcd hdd
    exact hbounce _ (bounce (due hcd)) _ (settleEnd (due hdd))

/-- Settles O2: the tick is the CMP's, and, where the part samples, the samples and the queue of what falls due. -/
theorem idleStepIsOneTick : Obligations.IdleStepIsOneTick := by
  intro s hp
  have hstep : step s = .next s.tick := by rw [step, hp]
  have hcmp : s.cmp.atTick (s.tb.now + 1) = _ := s.cmp.atTick_frame (s.tb.now + 1)
  rw [Cmp.atTick_waitStart, Cmp.atTick_readStart] at hcmp
  rw [hstep]
  cases hsample : s.sampling with
  | true =>
    refine ⟨Vector.ofFn fun b => (s.inputs[b]).sampled s.bays[b], s.atNextMs.due, ?next, fun hphase _ => ?before, fun _ => ⟨fun b => ?input, fun c => ?due,
      s.atNextMs.due_ordered, fun hperiod => State.due_period hperiod⟩⟩
    case next => rw [State.tick_of_sampling hsample, hcmp, hp, List.nil_append]
    case before =>
      rcases s.sampling_iff.mp hsample with h | h | h <;> rw [h] at hphase <;> rcases hphase with he | he <;> exact Phase.noConfusion he
    case input => rw [get_ofFn, BayInput.sampled_eq]
    case due => exact ⟨fun h => State.fallsDue_of_mem h, fun h => State.mem_of_fallsDue (s := s.atNextMs) h⟩
  | false =>
    refine ⟨s.inputs, s.atNextMs.memoryDue, ?next, fun _ hsaving => ⟨rfl, State.memoryDue_of_not_saving (s := s.atNextMs) hsaving⟩, fun hphase => ?runs⟩
    case next => rw [State.tick_of_not_sampling hsample, hcmp, hp, List.nil_append]
    case runs => exact absurd ((s.sampling_iff.mpr hphase).symm.trans hsample) (by decide)

end Sys2Proof.Machine

/-! ### The bytes of the tables (section 11.3) -/

namespace Sys2Proof.Machine

/-! #### Numbers and flags as bytes -/

theorem u8_toNat (n : Nat) : (u8 n).toNat = n % 256 := BitVec.toNat_ofNat n 8

theorem be16_u16 {n : Nat} (h : n < 65536) : be16 (u8 (n / 256)) (u8 n) = n := by
  rw [be16, u8_toNat, u8_toNat]
  omega

theorem sbe16_s16 {i : Int} (hlo : -32768 ≤ i) (hhi : i < 32768) : sbe16 (u8 ((i % 65536).toNat / 256)) (u8 (i % 65536).toNat) = i := by
  unfold sbe16
  rw [be16_u16 (by omega)]
  split <;> omega

theorem sbyte_s8 {i : Int} (hlo : -128 ≤ i) (hhi : i < 128) : sbyte (s8 i) = i := by
  unfold sbyte s8
  rw [u8_toNat_of_lt (by omega)]
  split <;> omega

theorem Policy.ofByte_code (p : Policy) : Policy.ofByte p.code = some p := by cases p <;> rfl

theorem OrderMode.ofByte_code (m : OrderMode) : OrderMode.ofByte m.code = some m := by cases m <;> rfl

theorem PhaseMode.ofByte_code (m : PhaseMode) : PhaseMode.ofByte m.code = some m := by cases m <;> rfl

theorem u8_ne_of_lt {n : Nat} {b : Byte} (h : n < b.toNat) : u8 n ≠ b := fun he => by
  have hn : (u8 n).toNat = n % 256 := u8_toNat n
  have := Nat.mod_le n 256
  rw [he] at hn
  omega

theorem patternOf_patternCode (p : Option PatternId) : patternOf (patternCode p) = some p := by
  cases p with
  | none => rfl
  | some i =>
    have hne : u8 i.val ≠ 16 := u8_ne_of_lt i.isLt
    rw [patternCode, patternOf, if_neg hne, Byte.index_u8 (by decide)]
    rfl

theorem slotOf_slotCode (s : Option SlotId) : slotOf (slotCode s) = some s := by
  cases s with
  | none => rfl
  | some i =>
    have hne : u8 i.val ≠ 255 := u8_ne_of_lt (i.isLt.trans (by decide))
    rw [slotCode, slotOf, if_neg hne, Byte.index_u8 (by decide)]
    rfl

theorem keepIf_of_ok {α : Type} {ok : α → Bool} {a : α} (h : ok a = true) : keepIf ok a = some a := if_pos h

/-! #### Each entry decodes to what was encoded -/

theorem BaySetting.decode_encode (e : BaySetting) : BaySetting.decode e.encode = some e := by
  simp [BaySetting.encode, BaySetting.decode, Policy.ofByte_code, Byte.index_u8]

theorem DriveClass.decode_encode {c : DriveClass} (h : c.inRange = true) : DriveClass.decode c.encode = some c := by
  obtain ⟨h1, h2, h3, -, h4, h5, h6⟩ := of_decide_eq_true (id h)
  simp only [DriveClass.encode, u16, List.cons_append, List.nil_append, DriveClass.decode]
  rw [be16_u16 (by omega), be16_u16 (by omega), be16_u16 (by omega), u8_toNat_of_lt (by omega), u8_toNat_of_lt (by omega), u8_toNat_of_lt (by omega)]
  exact keepIf_of_ok h

theorem Limits.decode_encode {l : Limits} (h : l.inRange = true) : Limits.decode l.encode = some l := by
  obtain ⟨h1, h2, hb, -, h4, h5, -, h6, -, h7, -, h8, h9, -, h10⟩ := of_decide_eq_true (id h)
  have hbranch (g : GroupId) : be16 (u8 (l.branch[g] / 256)) (u8 l.branch[g]) = l.branch[g] := be16_u16 (by have := hb g; omega)
  have hsix : #v[l.branch[(0 : GroupId)], l.branch[(1 : GroupId)], l.branch[(2 : GroupId)], l.branch[(3 : GroupId)], l.branch[(4 : GroupId)],
      l.branch[(5 : GroupId)]] = l.branch := vector_ext fun g => by fin_cases g <;> rfl
  have hencode : l.encode = [u8 (l.rail12 / 256), u8 l.rail12, u8 (l.rail5 / 256), u8 l.rail5,
      u8 (l.branch[(0 : GroupId)] / 256), u8 l.branch[(0 : GroupId)], u8 (l.branch[(1 : GroupId)] / 256), u8 l.branch[(1 : GroupId)],
      u8 (l.branch[(2 : GroupId)] / 256), u8 l.branch[(2 : GroupId)], u8 (l.branch[(3 : GroupId)] / 256), u8 l.branch[(3 : GroupId)],
      u8 (l.branch[(4 : GroupId)] / 256), u8 l.branch[(4 : GroupId)], u8 (l.branch[(5 : GroupId)] / 256), u8 l.branch[(5 : GroupId)],
      u8 l.maxRamps, u8 l.stagger, l.orderMode.code, flagByte l.autonomous, u8 l.insertionDebounce, u8 l.removalDebounce,
      u8 l.pgTimeout, u8 l.retryLimit, u8 l.backoffBase] := rfl
  rw [hencode]
  simp only [Limits.decode, OrderMode.ofByte_code, flagOf_flagByte, Option.bind_eq_bind, Option.bind_some, hbranch, hsix]
  rw [be16_u16 (by omega), be16_u16 (by omega), u8_toNat_of_lt (by omega), u8_toNat_of_lt (by omega), u8_toNat_of_lt (by omega),
    u8_toNat_of_lt (by omega), u8_toNat_of_lt (by omega), u8_toNat_of_lt (by omega), u8_toNat_of_lt (by omega)]
  exact keepIf_of_ok h

theorem IndicationEntry.decode_encode (e : IndicationEntry) : IndicationEntry.decode e.encode = some e := by
  simp [IndicationEntry.encode, IndicationEntry.decode, patternOf_patternCode, Byte.index_u8]

theorem decodeSteps_encode {steps : List PatternStep} (h : ∀ s ∈ steps, s.duration ≤ 255) :
    decodeSteps (steps.flatMap fun s => [flagByte s.on, u8 s.duration]) = some steps := by
  induction steps with
  | nil => rfl
  | cons s rest ih =>
    have hs := h s List.mem_cons_self
    rw [List.flatMap_cons]
    simp only [List.cons_append, List.nil_append, decodeSteps, flagOf_flagByte, Option.bind_eq_bind, Option.bind_some,
      ih fun x hx => h x (List.mem_cons_of_mem _ hx), u8_toNat_of_lt (Nat.lt_succ_of_le hs)]

theorem Pattern.decode_encode {p : Pattern} (h : p.inRange = true) : Pattern.decode p.encode = some p := by
  obtain ⟨-, hsteps⟩ := (Bool.and_eq_true _ _).mp (id h)
  have hd (s : PatternStep) (hs : s ∈ p.steps) : s.duration ≤ 255 := (of_decide_eq_true (List.all_eq_true.mp hsteps s hs)).2
  simp only [Pattern.encode, List.cons_append, List.nil_append, Pattern.decode, PhaseMode.ofByte_code, Option.bind_eq_bind, Option.bind_some,
    decodeSteps_encode hd]
  exact keepIf_of_ok h

theorem temperatureOf_encode {o : Option Int} (h : o.all temperatureInRange = true) :
    ∃ a b, temperatureBytes o = [a, b] ∧ temperatureOf a b = o := by
  cases o with
  | none => exact ⟨u8 (absentTemperature / 256), u8 absentTemperature, rfl, if_pos (be16_u16 (by decide))⟩
  | some t =>
    have ht : -80 ≤ t ∧ t ≤ 250 := of_decide_eq_true h
    refine ⟨u8 ((t % 65536).toNat / 256), u8 (t % 65536).toNat, rfl, ?_⟩
    have hbe : be16 (u8 ((t % 65536).toNat / 256)) (u8 (t % 65536).toNat) = (t % 65536).toNat := be16_u16 (by omega)
    have hne : (t % 65536).toNat ≠ absentTemperature := by change _ ≠ 32767; omega
    rw [temperatureOf, hbe, if_neg hne, sbe16_s16 (by omega) (by omega)]

theorem decodeCurveBody_encode {points : List CurvePoint} (hp : ∀ p ∈ points, (-80 ≤ p.temp ∧ p.temp ≤ 250) ∧ p.duty ≤ 1000) {hold shed : Option Int}
    (hh : hold.all temperatureInRange = true) (hs : shed.all temperatureInRange = true) :
    decodeCurveBody (points.flatMap (fun p => s16 p.temp ++ u16 p.duty) ++ temperatureBytes hold ++ temperatureBytes shed) =
      some (points, hold, shed) := by
  obtain ⟨a, b, hab, hhold⟩ := temperatureOf_encode hh
  obtain ⟨c, d, hcd, hshed⟩ := temperatureOf_encode hs
  rw [hab, hcd]
  induction points with
  | nil =>
    simp only [List.flatMap_nil, List.nil_append, List.cons_append, decodeCurveBody, hhold, hshed]
  | cons p rest ih =>
    obtain ⟨⟨hlo, hhi⟩, hduty⟩ := hp p List.mem_cons_self
    have hrest := ih fun x hx => hp x (List.mem_cons_of_mem _ hx)
    rw [List.flatMap_cons, List.append_assoc, List.append_assoc]
    rw [List.append_assoc] at hrest
    generalize hbody : rest.flatMap (fun p => s16 p.temp ++ u16 p.duty) ++ ([a, b] ++ [c, d]) = body at hrest ⊢
    have hne : body ≠ [] := by rw [← hbody]; simp
    simp only [s16, u16, List.cons_append, List.nil_append]
    rw [decodeCurveBody]
    · simp only [hrest, Option.bind_eq_bind, Option.bind_some, sbe16_s16 (by omega : -32768 ≤ p.temp) (by omega : p.temp < 32768),
        be16_u16 (by omega : p.duty < 65536)]
    · exact hne

theorem Curve.decode_encode {c : Curve} (h : c.inRange = true) : Curve.decode c.encode = some c := by
  obtain ⟨hpoints, hshed⟩ := (Bool.and_eq_true _ _).mp (id h)
  obtain ⟨hpoints, hhold⟩ := (Bool.and_eq_true _ _).mp hpoints
  simp only [Bool.and_eq_true, List.all_eq_true, decide_eq_true_eq, temperatureInRange] at hpoints
  simp only [Curve.encode, List.cons_append, List.nil_append, Curve.decode, decodeCurveBody_encode hpoints.2 hhold hshed, Option.bind_eq_bind,
    Option.bind_some]
  exact keepIf_of_ok h

theorem SensorSetting.decode_encode {e : SensorSetting} (h : e.inRange = true) : SensorSetting.decode e.encode = some e := by
  obtain ⟨hlo, hhi⟩ := of_decide_eq_true (id h)
  have hmask : (Vector.ofFn fun z : ZoneId => (u8 (bitsOf [e.mask[0], e.mask[1], e.mask[2]])).getLsbD z.val) = e.mask := by
    refine vector_ext fun z => ?_
    rw [get_ofFn]
    have hbits (x y w : Bool) (z : ZoneId) : (u8 (bitsOf [x, y, w])).getLsbD z.val = [x, y, w][z] := by
      revert x y w z
      decide
    rw [hbits]
    fin_cases z <;> rfl
  simp only [SensorSetting.encode, SensorSetting.decode, Byte.index_u8 (by decide : 6 ≤ 256), Option.bind_eq_bind, Option.bind_some, hmask,
    sbyte_s8 (by omega : -128 ≤ e.offset) (by omega : e.offset < 128)]
  exact keepIf_of_ok h

theorem ZoneSetting.decode_encode {z : ZoneSetting} (h : z.inRange = true) : ZoneSetting.decode z.encode = some z := by
  obtain ⟨h1, h2, -, h3, -, h4, h5, h6, h7, h8, -, h9, -, h10, -, h11⟩ := of_decide_eq_true (id h)
  simp only [ZoneSetting.encode, u16, List.cons_append, List.nil_append, ZoneSetting.decode, Byte.index_u8 (by decide : 6 ≤ 256), flagOf_flagByte,
    Option.bind_eq_bind, Option.bind_some]
  rw [be16_u16 (by omega), be16_u16 (by omega), be16_u16 (by omega), be16_u16 (by omega), be16_u16 (by omega), be16_u16 (by omega),
    be16_u16 (by omega), u8_toNat_of_lt (by omega), u8_toNat_of_lt (by omega), u8_toNat_of_lt (by omega), u8_toNat_of_lt (by omega)]
  exact keepIf_of_ok h

theorem FanSetting.decode_encode {f : FanSetting} (h : f.inRange = true) : FanSetting.decode f.encode = some f := by
  obtain ⟨h1, h2, -, h3, -, h4, h5⟩ := of_decide_eq_true (id h)
  simp only [FanSetting.encode, u16, List.cons_append, List.nil_append, FanSetting.decode, Byte.index_u8 (by decide : 3 ≤ 256), flagOf_flagByte,
    Option.bind_eq_bind, Option.bind_some]
  rw [be16_u16 (by omega), be16_u16 (by omega), be16_u16 (by omega), be16_u16 (by omega), u8_toNat_of_lt (by omega)]
  exact keepIf_of_ok h

theorem LinkSetting.decode_encode {l : LinkSetting} (h : l.inRange = true) : LinkSetting.decode l.encode = some l := by
  obtain ⟨-, h1, -, h2⟩ := of_decide_eq_true (id h)
  simp only [LinkSetting.encode, LinkSetting.decode, u8_toNat_of_lt (Nat.lt_succ_of_le (h1.trans (by decide : 60 ≤ 255))), u8_toNat_of_lt (Nat.lt_succ_of_le h2)]
  exact keepIf_of_ok h

/-! #### The length of an entry, and a list of entries cut again -/

theorem flatMap_length {α : Type} (l : List α) (f : α → List Byte) (k : Nat) (h : ∀ x ∈ l, (f x).length = k) : (l.flatMap f).length = k * l.length := by
  induction l with
  | nil => rfl
  | cons x xs ih =>
    rw [List.flatMap_cons, List.length_append, h x List.mem_cons_self, ih fun y hy => h y (List.mem_cons_of_mem _ hy), List.length_cons]
    ring

theorem temperatureBytes_length (o : Option Int) : (temperatureBytes o).length = 2 := by cases o <;> rfl

theorem Pattern.encode_length (p : Pattern) : p.encode.length = 2 + 2 * p.steps.length := by
  rw [Pattern.encode, List.length_append, flatMap_length _ _ 2 fun _ _ => rfl]
  rfl

theorem Curve.encode_length (c : Curve) : c.encode.length = 5 + 4 * c.points.length := by
  rw [Curve.encode, List.length_append, List.length_append, List.length_append, flatMap_length _ _ 4 fun _ _ => rfl, temperatureBytes_length,
    temperatureBytes_length]
  change 1 + 4 * c.points.length + 2 + 2 = _
  omega

theorem entryLength_pattern {p : Pattern} (h : p.inRange = true) (rest : List Byte) :
    entryLength .patterns (p.encode ++ rest) = some p.encode.length := by
  have hlen := (of_decide_eq_true ((Bool.and_eq_true _ _).mp h).1).2
  rw [p.encode_length]
  change some (2 + 2 * (u8 p.steps.length).toNat) = _
  rw [u8_toNat_of_lt (by omega)]

theorem entryLength_curve {c : Curve} (h : c.inRange = true) (rest : List Byte) :
    entryLength .curves (c.encode ++ rest) = some c.encode.length := by
  obtain ⟨h, -⟩ := (Bool.and_eq_true _ _).mp h
  obtain ⟨h, -⟩ := (Bool.and_eq_true _ _).mp h
  have hlen := (of_decide_eq_true ((Bool.and_eq_true _ _).mp h).1).2
  rw [c.encode_length]
  change some (5 + 4 * (u8 c.points.length).toNat) = _
  rw [u8_toNat_of_lt (by omega)]

theorem Tables.encodeAll_length (t : Tables) (id : TableId) : (t.encodeAll id).length = id.entries := by
  cases id <;> simp [Tables.encodeAll, TableId.entries]

/-- Every entry of a table in range gives its own length at its front (section 11.3). -/
theorem Tables.entryLength_encodeAll {t : Tables} {id : TableId} (ht : t.rangeAt id) {raw : List Byte} (h : raw ∈ t.encodeAll id) (rest : List Byte) :
    entryLength id (raw ++ rest) = some raw.length := by
  cases id
  case patterns =>
    obtain ⟨p, -, rfl⟩ := List.mem_map.mp h
    exact entryLength_pattern (ht p) rest
  case curves =>
    obtain ⟨c, -, rfl⟩ := List.mem_map.mp h
    exact entryLength_curve (ht c) rest
  case limits | linkSettings =>
    rw [List.mem_singleton.mp h]
    rfl
  all_goals
    obtain ⟨i, -, rfl⟩ := List.mem_map.mp h
    rfl

/-- Entries that give their own lengths are cut as they were joined. -/
theorem splitEntries_flatten {id : TableId} {raws : List (List Byte)} (h : ∀ raw ∈ raws, ∀ rest, entryLength id (raw ++ rest) = some raw.length)
    (rest : List Byte) : splitEntries id raws.length (raws.flatten ++ rest) = some (raws, rest) := by
  induction raws with
  | nil => rfl
  | cons raw raws ih =>
    rw [List.flatten_cons, List.append_assoc, List.length_cons, splitEntries, h raw List.mem_cons_self]
    have hlen : ¬ (raw ++ (raws.flatten ++ rest)).length < raw.length := by rw [List.length_append]; omega
    simp only [hlen, if_false, List.drop_left, List.take_left, ih fun x hx => h x (List.mem_cons_of_mem _ hx)]

theorem Tables.splitEntries_encodeAll {t : Tables} {id : TableId} (ht : t.rangeAt id) (rest : List Byte) :
    splitEntries id id.entries ((t.encodeAll id).flatten ++ rest) = some (t.encodeAll id, rest) := by
  rw [← t.encodeAll_length id]
  exact splitEntries_flatten (fun _ hraw rest => Tables.entryLength_encodeAll ht hraw rest) rest

/-! #### A whole table written (R170) -/

/-- How the entries of a table of n records are put: each is decoded and takes its place. -/
structure TableLens (id : TableId) (α : Type) (n : Nat) where
  get : Tables → Vector α n
  set : Tables → Vector α n → Tables
  decode : List Byte → Option α
  put : ∀ t i raw, t.putEntry id i raw = (decode raw).bind fun e => (putAt (get t) i e).bind fun v => some (set t v) := by intros; rfl
  get_set : ∀ t v, get (set t v) = v := by intros; rfl
  set_set : ∀ t v w, set (set t v) w = set t w := by intros; rfl
  set_get : ∀ t, set t (get t) = t := by intros; rfl

theorem TableLens.putEntries_from {id : TableId} {α : Type} {n : Nat} (l : TableLens id α n) (encode : α → List Byte) {v : Vector α n}
    (hv : ∀ i : Fin n, l.decode (encode v[i]) = some v[i]) (m : Nat) :
    ∀ (k : Nat) (t : Tables), k + m = n → (∀ i : Fin n, i.val < k → (l.get t)[i] = v[i]) →
      t.putEntries id k (((List.finRange n).drop k).map fun i => encode v[i]) = .ok (l.set t v) := by
  induction m with
  | zero =>
    intro k t hk ht
    have hget : l.get t = v := vector_ext fun i => ht i (by omega)
    rw [List.drop_of_length_le (by rw [List.length_finRange]; omega), ← hget, l.set_get]
    rfl
  | succ m ih =>
    intro k t hk ht
    have hkn : k < n := by omega
    have hlen : k < (List.finRange n).length := by rw [List.length_finRange]; exact hkn
    have hput : t.putEntry id k (encode v[(⟨k, hkn⟩ : Fin n)]) = some (l.set t ((l.get t).set k v[(⟨k, hkn⟩ : Fin n)])) := by
      rw [l.put, hv, Option.bind_some, putAt, dif_pos hkn]
      rfl
    rw [List.drop_eq_getElem_cons hlen, List.getElem_finRange, List.map_cons, Tables.putEntries]
    change (match t.putEntry id k (encode v[(⟨k, hkn⟩ : Fin n)]) with
      | none => Checked.bad k
      | some t' => t'.putEntries id (k + 1) (((List.finRange n).drop (k + 1)).map fun i => encode v[i])) = _
    rw [hput]
    dsimp only
    rw [ih (k + 1) _ (by omega) fun i hi => ?_, l.set_set]
    rw [l.get_set, Fin.getElem_fin, Vector.getElem_set]
    split
    · next he => exact congrArg (fun j : Fin n => v[j]) (Fin.ext he)
    · next he => exact ht i (by omega)

theorem TableLens.putEntries_all {id : TableId} {α : Type} {n : Nat} (l : TableLens id α n) (encode : α → List Byte) {v : Vector α n}
    (hv : ∀ i : Fin n, l.decode (encode v[i]) = some v[i]) (t : Tables) :
    t.putEntries id 0 ((List.finRange n).map fun i => encode v[i]) = .ok (l.set t v) :=
  l.putEntries_from encode hv n 0 t (Nat.zero_add n) fun _ hi => absurd hi (Nat.not_lt_zero _)

/-- A bay map entry is one byte. -/
def decodeSlot : List Byte → Option (Option SlotId)
  | [b] => slotOf b
  | _ => none

theorem putEntry_bayMap (t : Tables) (i : Nat) (raw : List Byte) :
    t.putEntry .bayMap i raw = (decodeSlot raw).bind fun e => (putAt t.bayMap i e).bind fun v => some { t with bayMap := v } := by
  match raw with
  | [] => rfl
  | [_] => rfl
  | _ :: _ :: _ => rfl

def bayMapLens : TableLens .bayMap (Option SlotId) 24 where
  get t := t.bayMap
  set t v := { t with bayMap := v }
  decode := decodeSlot
  put := putEntry_bayMap

def baySettingsLens : TableLens .baySettings BaySetting 24 where
  get t := t.baySettings
  set t v := { t with baySettings := v }
  decode := BaySetting.decode

def classesLens : TableLens .classes DriveClass 8 where
  get t := t.classes
  set t v := { t with classes := v }
  decode := DriveClass.decode

def indicationsLens : TableLens .indications IndicationEntry 32 where
  get t := t.indications
  set t v := { t with indications := v }
  decode := IndicationEntry.decode

def patternsLens : TableLens .patterns Pattern 16 where
  get t := t.patterns
  set t v := { t with patterns := v }
  decode := Pattern.decode

def curvesLens : TableLens .curves Curve 6 where
  get t := t.curves
  set t v := { t with curves := v }
  decode := Curve.decode

def sensorsLens : TableLens .sensors SensorSetting 4 where
  get t := t.sensors
  set t v := { t with sensors := v }
  decode := SensorSetting.decode

def zonesLens : TableLens .zones ZoneSetting 3 where
  get t := t.zones
  set t v := { t with zones := v }
  decode := ZoneSetting.decode

def fansLens : TableLens .fans FanSetting 6 where
  get t := t.fans
  set t v := { t with fans := v }
  decode := FanSetting.decode

/-- The entries of a table in range are put as they were encoded, and no other table moves (step 4 of R170). -/
theorem Tables.putEntries_encodeAll (t : Tables) {u : Tables} {id : TableId} (hu : u.rangeAt id) :
    t.putEntries id 0 (u.encodeAll id) = .ok (t.withTable id u) := by
  cases id
  case bayMap => exact bayMapLens.putEntries_all (fun s => [slotCode s]) (fun _ => slotOf_slotCode _) t
  case baySettings => exact baySettingsLens.putEntries_all BaySetting.encode (fun _ => BaySetting.decode_encode _) t
  case classes => exact classesLens.putEntries_all DriveClass.encode (fun i => DriveClass.decode_encode (hu i)) t
  case indications => exact indicationsLens.putEntries_all IndicationEntry.encode (fun _ => IndicationEntry.decode_encode _) t
  case patterns => exact patternsLens.putEntries_all Pattern.encode (fun i => Pattern.decode_encode (hu i)) t
  case curves => exact curvesLens.putEntries_all Curve.encode (fun i => Curve.decode_encode (hu i)) t
  case sensors => exact sensorsLens.putEntries_all SensorSetting.encode (fun i => SensorSetting.decode_encode (hu i)) t
  case zones => exact zonesLens.putEntries_all ZoneSetting.encode (fun i => ZoneSetting.decode_encode (hu i)) t
  case fans => exact fansLens.putEntries_all FanSetting.encode (fun i => FanSetting.decode_encode (hu i)) t
  case limits =>
    simp only [Tables.encodeAll, Tables.putEntries, Tables.putEntry, Limits.decode_encode hu]
    rfl
  case linkSettings =>
    simp only [Tables.encodeAll, Tables.putEntries, Tables.putEntry, LinkSetting.decode_encode hu]
    rfl

/-- A table that meets its constraint fails it at no entry (step 5 of R170). -/
theorem Tables.constraintFailure_of_constraintAt {t : Tables} {id : TableId} (h : t.constraintAt id) (i : Nat) : t.constraintFailure id i = none := by
  cases id
  case bayMap =>
    simp only [Tables.constraintFailure]
    split
    · next hi =>
      rw [(sharesSlot_eq_none_iff _ _).mpr fun b hb => (bayMapUnique_iff _).mp h _ b hb]
      rfl
    · rfl
  case classes | curves | fans =>
    simp only [Tables.constraintFailure]
    split
    · next hi => exact if_pos (h ⟨i, hi⟩)
    · rfl
  all_goals rfl

theorem Tables.withTable_same (t u : Tables) (id : TableId) :
    ((t.withTable id u).constraintAt id ↔ u.constraintAt id) ∧ (t.withTable id u).encodeAll id = u.encodeAll id := by
  cases id <;> exact ⟨Iff.rfl, rfl⟩

theorem Tables.withTable_encodeAll {id id' : TableId} (t u : Tables) (h : id' ≠ id) : (t.withTable id u).encodeAll id' = t.encodeAll id' := by
  cases id <;> cases id' <;> trivial

/-- A TABLE WRITE of a whole table in range passes its checks and replaces that table. -/
theorem Tables.checkWrite_encodeAll (t : Tables) {u : Tables} {id : TableId} (hr : u.rangeAt id) (hc : u.constraintAt id) :
    t.checkWrite id 0 (u.encodeAll id) = .ok (t.withTable id u) := by
  have hnone : (List.range' 0 (u.encodeAll id).length).findSome? ((t.withTable id u).constraintFailure id) = none :=
    List.findSome?_eq_none_iff.mpr fun i _ => Tables.constraintFailure_of_constraintAt ((t.withTable_same u id).1.mpr hc) i
  rw [Tables.checkWrite, t.putEntries_encodeAll hr]
  dsimp only
  rw [hnone]

/-- Settles O47: each entry decodes to what was encoded, so the whole table is put in place of the old one. -/
theorem writtenTableReadsBack : Obligations.WrittenTableReadsBack := by
  intro t u id hwf
  obtain ⟨hr, hc⟩ := u.wf_iff_at.mp hwf id
  refine ⟨?_, t.withTable id u, t.checkWrite_encodeAll hr hc, (t.withTable_same u id).2, fun id' hid => t.withTable_encodeAll u hid⟩
  have hsplit := Tables.splitEntries_encodeAll hr []
  rwa [List.append_nil] at hsplit

end Sys2Proof.Machine

/-! ### The image of a save, and its load (R183 to R185, R192, R198) -/

namespace Sys2Proof.Machine

/-! #### What the writes of a save leave in the memory (R192) -/

theorem Memory.writeBytes_append (m : Memory) (a : Nat) (xs ys : List Byte) :
    Memory.writeBytes m a (xs ++ ys) = Memory.writeBytes (Memory.writeBytes m a xs) (a + xs.length) ys := by
  induction xs generalizing m a with
  | nil => rfl
  | cons x xs ih =>
    rw [List.length_cons, ← Nat.add_assoc, Nat.add_right_comm]
    exact ih _ _

/-- The memory after writes in their order. -/
def Memory.written (m : Memory) (ws : List SaveWrite) : Memory := ws.foldl (fun mem w => Memory.writeBytes mem w.offset w.bytes) m

theorem Memory.written_append (m : Memory) (xs ys : List SaveWrite) : m.written (xs ++ ys) = (m.written xs).written ys := List.foldl_append

/-- The pages lie one behind the other. -/
theorem Memory.written_pageWrites (n offset : Nat) (bytes : List Byte) (m : Memory) (h : bytes.length ≤ n) :
    m.written (pageWrites n offset bytes) = Memory.writeBytes m offset bytes := by
  induction n generalizing offset bytes m with
  | zero =>
    rw [List.eq_nil_of_length_eq_zero (Nat.le_zero.mp h)]
    rfl
  | succ n ih =>
    cases bytes with
    | nil => rfl
    | cons b bs =>
      have hsplit : (b :: bs).take 32 ++ (b :: bs).drop 32 = b :: bs := List.take_append_drop 32 _
      have hnext := ih (offset + 32) ((b :: bs).drop 32) (Memory.writeBytes m offset ((b :: bs).take 32))
        (by rw [List.length_drop]; omega)
      change (Memory.writeBytes m offset ((b :: bs).take 32)).written (pageWrites n (offset + 32) ((b :: bs).drop 32)) = _
      rw [hnext]
      by_cases hlen : 32 ≤ (b :: bs).length
      · have htake : ((b :: bs).take 32).length = 32 := by rw [List.length_take]; omega
        conv_rhs => rw [← hsplit]
        rw [Memory.writeBytes_append, htake]
      · have hdrop : (b :: bs).drop 32 = [] := List.drop_of_length_le (by omega)
        have htake : (b :: bs).take 32 = b :: bs := List.take_of_length_le (by omega)
        rw [hdrop, htake]
        rfl

/-- The writes of a save are the marker erased, the image behind it, and the marker. -/
theorem Memory.written_saveWrites (m : Memory) (t : Tables) (h : 32 ≤ (imageBytes t).length) :
    m.written (saveWrites t) =
      Memory.writeBytes (Memory.writeBytes (Memory.writeBytes m 0 erasedMarker) 2 ((imageBytes t).drop 2)) 0 imageMarker := by
  unfold saveWrites
  generalize imageBytes t = image at h ⊢
  dsimp only
  have hdrop : image.drop 32 = (image.drop 2).drop 30 := by rw [List.drop_drop]
  have hsplit : (image.drop 2).take 30 ++ image.drop 32 = image.drop 2 := by rw [hdrop, List.take_append_drop]
  have hlen : ((image.drop 2).take 30).length = 30 := by rw [List.length_take, List.length_drop]; omega
  have hjoin := Memory.writeBytes_append (Memory.writeBytes m 0 erasedMarker) 2 ((image.drop 2).take 30) (image.drop 32)
  rw [hlen, hsplit] at hjoin
  rw [hjoin, Memory.written_append, Memory.written_append, Memory.written_pageWrites _ _ _ _ (by rw [List.length_drop]; omega)]
  rfl

/-- What the check of the image is taken over: the version, the length and the blocks (R198). -/
def imageChecked (t : Tables) : List Byte := [imageVersion] ++ u16 (imageBody t).length ++ imageBody t

theorem imageBytes_eq (t : Tables) : imageBytes t = imageMarker ++ imageChecked t ++ crcBytes (imageChecked t) := rfl

theorem imageBytes_marker (t : Tables) {i : Nat} (hi : i < 2) (h : i < (imageBytes t).length) : (imageBytes t)[i] = imageMarker[i]'hi := by
  have hlen : i < imageMarker.length := hi
  simp only [imageBytes_eq, List.append_assoc, List.getElem_append_left hlen]
  rfl

/-- The memory after a whole save reads as the image, from offset 0 on. -/
theorem Memory.read_written_saveWrites {m : Memory} (hm : Memory.wf m = true) (t : Tables) (h : 32 ≤ (imageBytes t).length) {i : Nat}
    (hi : i < (imageBytes t).length) : Memory.read (m.written (saveWrites t)) i = (imageBytes t)[i] := by
  rw [Memory.written_saveWrites m t h]
  have hwf := Memory.wf_writeBytes 2 ((imageBytes t).drop 2) (Memory.wf_writeBytes 0 erasedMarker hm)
  by_cases hmark : i < 2
  · have hread := Memory.read_writeBytes_inside 0 imageMarker hwf i hmark
    rw [Nat.zero_add] at hread
    rw [hread, imageBytes_marker t hmark]
  · rw [Memory.read_writeBytes_outside _ _ (.inr (by change 0 + 2 ≤ i; omega))]
    obtain ⟨k, rfl⟩ : ∃ k, i = 2 + k := ⟨i - 2, by omega⟩
    rw [Memory.read_writeBytes_inside 2 _ (Memory.wf_writeBytes 0 erasedMarker hm) k (by rw [List.length_drop]; omega), List.getElem_drop]

/-- A memory that reads as the bytes from offset 0 on gives each part of them. -/
theorem Memory.readBytes_of_reads {m : Memory} {xs ys zs : List Byte}
    (h : ∀ i (hi : i < (xs ++ ys ++ zs).length), Memory.read m i = (xs ++ ys ++ zs)[i]) : Memory.readBytes m xs.length ys.length = ys := by
  unfold Memory.readBytes
  refine List.ext_getElem (by simp) fun i _ hi => ?_
  rw [List.getElem_map, List.getElem_range, h (xs.length + i) (by simp; omega), List.getElem_append_left (by simp; omega),
    List.getElem_append_right (by omega)]
  simp

/-! #### The length of the image (R183) -/

/-- The longest entry of a table (section 11.3). -/
def TableId.entryMax : TableId → Nat
  | .bayMap => 1 | .baySettings => 6 | .classes => 9 | .limits => 25 | .indications => 3 | .patterns => 18 | .curves => 37 | .sensors => 3
  | .zones => 20 | .fans => 11 | .linkSettings => 2

theorem Tables.entry_length_le {t : Tables} {id : TableId} (ht : t.rangeAt id) {raw : List Byte} (h : raw ∈ t.encodeAll id) :
    raw.length ≤ id.entryMax := by
  cases id
  case patterns =>
    obtain ⟨p, -, rfl⟩ := List.mem_map.mp h
    have hlen := (of_decide_eq_true ((Bool.and_eq_true _ _).mp (ht p)).1).2
    rw [Pattern.encode_length]
    change _ ≤ 18
    omega
  case curves =>
    obtain ⟨c, -, rfl⟩ := List.mem_map.mp h
    have hlen := (of_decide_eq_true ((Bool.and_eq_true _ _).mp ((Bool.and_eq_true _ _).mp ((Bool.and_eq_true _ _).mp (ht c)).1).1).1).2
    rw [Curve.encode_length]
    change _ ≤ 37
    omega
  case limits | linkSettings =>
    rw [List.mem_singleton.mp h]
    exact le_rfl
  all_goals
    obtain ⟨i, -, rfl⟩ := List.mem_map.mp h
    exact le_rfl

theorem length_flatten_le (raws : List (List Byte)) (k : Nat) (h : ∀ raw ∈ raws, raw.length ≤ k) : raws.flatten.length ≤ k * raws.length := by
  induction raws with
  | nil => exact Nat.zero_le _
  | cons raw raws ih =>
    have hrest := ih fun x hx => h x (List.mem_cons_of_mem _ hx)
    have hraw := h raw List.mem_cons_self
    rw [List.flatten_cons, List.length_append, List.length_cons, Nat.mul_succ]
    omega

/-- The bytes of a table's block in the image (R192). -/
def Tables.blockBytes (t : Tables) (id : TableId) : List Byte := [u8 id.code, 0, u8 id.entries] ++ (t.encodeAll id).flatten

theorem imageBody_eq (t : Tables) : imageBody t = TableId.all.flatMap t.blockBytes := rfl

theorem Tables.blockBytes_length {t : Tables} {id : TableId} (ht : t.rangeAt id) :
    3 ≤ (t.blockBytes id).length ∧ (t.blockBytes id).length ≤ 3 + id.entryMax * id.entries := by
  have hle := length_flatten_le (t.encodeAll id) id.entryMax fun _ hraw => Tables.entry_length_le ht hraw
  rw [t.encodeAll_length] at hle
  have hlen : (t.blockBytes id).length = 3 + (t.encodeAll id).flatten.length := by
    rw [Tables.blockBytes, List.length_append]
    rfl
  omega

theorem length_flatMap_bounds {t : Tables} (ht : ∀ id, t.rangeAt id) (ids : List TableId) :
    3 * ids.length ≤ (ids.flatMap t.blockBytes).length ∧
      (ids.flatMap t.blockBytes).length ≤ (ids.map fun id => 3 + id.entryMax * id.entries).sum := by
  induction ids with
  | nil => exact ⟨le_rfl, le_rfl⟩
  | cons id ids ih =>
    have hblock := Tables.blockBytes_length (ht id)
    rw [List.flatMap_cons, List.length_append, List.length_cons, List.map_cons, List.sum_cons]
    omega

/-- The image of tables in range lies within the length that a load accepts (R183). -/
theorem imageBody_length {t : Tables} (ht : ∀ id, t.rangeAt id) : 33 ≤ (imageBody t).length ∧ (imageBody t).length ≤ imageMaxLength := by
  obtain ⟨hlo, hhi⟩ := length_flatMap_bounds ht TableId.all
  rw [← imageBody_eq] at hlo hhi
  have hsum : (TableId.all.map fun id => 3 + id.entryMax * id.entries).sum = 1044 := by decide
  have hmax : imageMaxLength = 2041 := rfl
  have hall : 3 * TableId.all.length = 33 := by decide
  omega

/-! #### The image read and applied (R184, R185) -/

theorem TableId.ofByte_code (id : TableId) : TableId.ofByte (u8 id.code) = some id := by cases id <;> decide

theorem TableId.entries_toNat (id : TableId) : (u8 id.entries).toNat = id.entries := by cases id <;> decide

/-- The block that a save writes for a table (R192). -/
def Tables.block (t : Tables) (id : TableId) : Block := { id, first := 0, entries := t.encodeAll id }

theorem parseBlocks_blockBytes {t : Tables} (ht : ∀ id, t.rangeAt id) (ids : List TableId) (n : Nat) (h : ids.length ≤ n) :
    parseBlocks n (ids.flatMap t.blockBytes) = some (ids.map t.block) := by
  induction ids generalizing n with
  | nil => cases n <;> rfl
  | cons id ids ih =>
    cases n with
    | zero => exact absurd h (by simp)
    | succ n =>
      have hcons : (id :: ids).flatMap t.blockBytes =
          u8 id.code :: 0 :: u8 id.entries :: ((t.encodeAll id).flatten ++ ids.flatMap t.blockBytes) := rfl
      rw [hcons, parseBlocks, TableId.ofByte_code, TableId.entries_toNat, Option.bind_eq_bind, Option.bind_some,
        Tables.splitEntries_encodeAll (ht id)]
      simp only [Option.bind_eq_bind, Option.bind_some, ih n (Nat.le_of_succ_le_succ h)]
      rfl

/-- A memory that reads as the image is read as its blocks. -/
theorem readImage_of_reads {t : Tables} (ht : ∀ id, t.rangeAt id) {m : Memory}
    (h : ∀ i (hi : i < (imageBytes t).length), Memory.read m i = (imageBytes t)[i]) : readImage m = some (TableId.all.map t.block) := by
  obtain ⟨hlo, hhi⟩ := imageBody_length ht
  have hmax : imageMaxLength = 2041 := rfl
  have part (xs ys zs : List Byte) (he : imageBytes t = xs ++ ys ++ zs) : Memory.readBytes m xs.length ys.length = ys :=
    Memory.readBytes_of_reads (zs := zs) (by rw [← he]; exact h)
  have hlong : imageBytes t = [0xC3, 0x5A, imageVersion, u8 ((imageBody t).length / 256), u8 (imageBody t).length] ++
      (imageBody t ++ crcBytes (imageChecked t)) := rfl
  have hlen : (imageBytes t).length = 5 + ((imageBody t).length + 2) := by rw [hlong, List.length_append, List.length_append]; rfl
  have head (i : Nat) (hi : i < 5) : Memory.read m i =
      [0xC3, 0x5A, imageVersion, u8 ((imageBody t).length / 256), u8 (imageBody t).length][i] := by
    rw [h i (by omega)]
    simp only [hlong]
    exact List.getElem_append_left hi
  have hmark : Memory.readBytes m 0 2 = imageMarker :=
    part [] imageMarker (imageChecked t ++ crcBytes (imageChecked t)) (by rw [imageBytes_eq, List.nil_append, List.append_assoc])
  have hversion : Memory.read m 2 = imageVersion := head 2 (by decide)
  have hcount : be16 (Memory.read m 3) (Memory.read m 4) = (imageBody t).length := by
    rw [head 3 (by decide), head 4 (by decide)]
    exact be16_u16 (by omega)
  have hbody : Memory.readBytes m 5 (imageBody t).length = imageBody t :=
    part [0xC3, 0x5A, imageVersion, u8 ((imageBody t).length / 256), u8 (imageBody t).length] (imageBody t) (crcBytes (imageChecked t)) rfl
  have hhead : Memory.readBytes m 2 3 = [imageVersion] ++ u16 (imageBody t).length :=
    part imageMarker ([imageVersion] ++ u16 (imageBody t).length) (imageBody t ++ crcBytes (imageChecked t))
      (by rw [imageBytes_eq, imageChecked]; simp only [List.append_assoc])
  have hcheck : Memory.readBytes m (5 + (imageBody t).length) 2 = crcBytes (imageChecked t) := by
    have hpart := part (imageMarker ++ imageChecked t) (crcBytes (imageChecked t)) [] (by rw [imageBytes_eq, List.append_nil])
    have hfront : (imageMarker ++ imageChecked t).length = 5 + (imageBody t).length := by
      rw [imageChecked, List.length_append, List.length_append, List.length_append]
      change 2 + (1 + 2 + _) = _
      omega
    rw [hfront] at hpart
    exact hpart
  unfold readImage
  simp only [hcount, hbody, hhead]
  rw [if_pos ⟨hmark, hversion, hhi, hcheck⟩, imageBody_eq]
  exact parseBlocks_blockBytes ht _ _ (by rw [← imageBody_eq]; change 11 ≤ _; omega)

theorem rangeOk_whole (id : TableId) : rangeOk id 0 id.entries = true := by cases id <;> decide

theorem Loading.block_whole {t : Tables} {l : Loading} {id : TableId} (ht : t.rangeAt id ∧ t.constraintAt id) (hf : l.failed = []) :
    l.block (t.block id) = { l with tables := l.tables.withTable id t, given := id :: l.given } := by
  unfold Loading.block
  have hnot : (t.block id).id ∉ l.failed := by rw [hf]; exact List.not_mem_nil
  have hok : rangeOk (t.block id).id (t.block id).first (t.block id).entries.length = true := by
    change rangeOk id 0 (t.encodeAll id).length = true
    rw [t.encodeAll_length]
    exact rangeOk_whole id
  rw [if_neg hnot, if_pos hok]
  change (match l.tables.checkWrite id 0 (t.encodeAll id) with
    | .ok t' => ({ l with tables := t', given := id :: l.given } : Loading)
    | .bad _ => { l with tables := l.tables.toDefault id, failed := id :: l.failed }) = _
  rw [l.tables.checkWrite_encodeAll ht.1 ht.2]

theorem foldl_block_whole {t : Tables} (ht : ∀ id, t.rangeAt id ∧ t.constraintAt id) (ids : List TableId) (l : Loading) (hf : l.failed = []) :
    (ids.map t.block).foldl Loading.block l =
      { tables := ids.foldl (fun u id => u.withTable id t) l.tables, given := ids.reverse ++ l.given, failed := [] } := by
  induction ids generalizing l with
  | nil =>
    obtain ⟨tables, given, failed⟩ := l
    have hf : failed = [] := hf
    rw [hf]
    rfl
  | cons id ids ih =>
    have hrest := ih { l with tables := l.tables.withTable id t, given := id :: l.given } hf
    rw [List.map_cons, List.foldl_cons, Loading.block_whole (ht id) hf, hrest, List.reverse_cons, List.append_assoc]
    rfl

/-- Each of the eleven tables put in its place gives the tables themselves. -/
theorem foldl_withTable_all (u t : Tables) : TableId.all.foldl (fun u id => u.withTable id t) u = t := by
  simp only [TableId.all, List.foldl, Tables.withTable]

theorem loadBlocks_whole {t : Tables} (ht : ∀ id, t.rangeAt id ∧ t.constraintAt id) :
    loadBlocks (TableId.all.map t.block) = { tables := t, given := TableId.all.reverse, failed := [] } := by
  rw [loadBlocks, foldl_block_whole ht _ _ rfl, foldl_withTable_all, List.append_nil]

/-- Settles O56: the writes leave the image, which is read as one block for each table, each of which passes its checks. -/
theorem savedImageLoadsBack : Obligations.SavedImageLoadsBack := by
  intro t m hwf hm
  have ht := t.wf_iff_at.mp hwf
  obtain ⟨hlo, -⟩ := imageBody_length fun id => (ht id).1
  have hlong : 32 ≤ (imageBytes t).length := by
    rw [imageBytes_eq, imageChecked]
    simp only [List.length_append]
    omega
  have himage := readImage_of_reads (fun id => (ht id).1) fun i hi => Memory.read_written_saveWrites hm t hlong hi
  change loadTables false (m.written (saveWrites t)) = _
  unfold loadTables
  rw [if_neg Bool.false_ne_true, himage]
  dsimp only
  rw [loadBlocks_whole ht]
  have hflags : (Vector.ofFn fun i : Fin 11 =>
      match TableId.ofByte (u8 i.val) with
      | some id => decide (id ∈ ([] : List TableId)) || !decide (id ∈ TableId.all.reverse)
      | none => true) = Vector.replicate 11 false := by decide
  exact Prod.ext rfl hflags

end Sys2Proof.Machine

/-! ### The receiver (R130 to R133, R194 to R196) -/

namespace Sys2Proof.Machine

/-! #### Words -/

theorem dataWord_toNat (b : Byte) : (dataWord b).toNat = b.toNat := by
  rw [dataWord, BitVec.toNat_append]
  simp

theorem highByte_dataWord (b : Byte) : highByte (dataWord b) = 0 := by
  refine BitVec.eq_of_toNat_eq ?_
  have hb := b.isLt
  rw [highByte, BitVec.extractLsb'_toNat, dataWord_toNat, Nat.shiftRight_eq_div_pow]
  change b.toNat / 256 % 256 = 0
  omega

theorem lowByte_dataWord (b : Byte) : lowByte (dataWord b) = b := by
  refine BitVec.eq_of_toNat_eq ?_
  have hb := b.isLt
  rw [lowByte, BitVec.extractLsb'_toNat, dataWord_toNat]
  exact Nat.mod_eq_of_lt hb

theorem classifyWord_dataWord (b : Byte) : classifyWord (dataWord b) = .data b := by
  have hstart : dataWord b ≠ startWord := fun he => by
    have hhigh := highByte_dataWord b
    rw [he] at hhigh
    exact absurd hhigh (by decide)
  rw [classifyWord, if_neg hstart, highByte_dataWord, if_neg (by decide), if_neg (by decide), lowByte_dataWord]

theorem classifyWord_startWord : classifyWord startWord = .start := if_pos rfl

theorem classifyWord_trainingWordOf (k : TrainKind) (h : BitVec 4) : classifyWord (trainingWordOf k h) = .training k h := by
  cases k <;> revert h <;> decide

/-! #### One word, and words one after the other -/

theorem Receiver.run_cons (r : Receiver) (w : LinkWord) (ws : List LinkWord) :
    Receiver.run r (w :: ws) = ((Receiver.run (r.step w).1 ws).1, (r.step w).2 ++ (Receiver.run (r.step w).1 ws).2) := rfl

theorem Receiver.run_append (r : Receiver) (xs ys : List LinkWord) :
    Receiver.run r (xs ++ ys) = ((Receiver.run (Receiver.run r xs).1 ys).1, (Receiver.run r xs).2 ++ (Receiver.run (Receiver.run r xs).1 ys).2) := by
  induction xs generalizing r with
  | nil => rfl
  | cons x xs ih => rw [List.cons_append, Receiver.run_cons, ih, Receiver.run_cons, List.append_assoc]

theorem Receiver.step_outside_data (b : Byte) : Receiver.outside.step (dataWord b) = (.outside, []) := by
  simp only [Receiver.step, classifyWord_dataWord]

theorem Receiver.step_inside_data (bytes : List Byte) (b : Byte) : (Receiver.inside bytes).step (dataWord b) = receiveByte (bytes ++ [b]) := by
  simp only [Receiver.step, classifyWord_dataWord]

theorem Receiver.step_outside_start : Receiver.outside.step startWord = (.inside [], []) := by
  simp only [Receiver.step, classifyWord_startWord]

theorem Receiver.step_inside_start (bytes : List Byte) : (Receiver.inside bytes).step startWord = (.inside [], [.bad]) := by
  simp only [Receiver.step, classifyWord_startWord]

theorem Receiver.step_outside_training (k : TrainKind) (h : BitVec 4) :
    Receiver.outside.step (trainingWordOf k h) = (.outside, [.training k h]) := by
  simp only [Receiver.step, classifyWord_trainingWordOf]

theorem Receiver.step_inside_training (bytes : List Byte) (k : TrainKind) (h : BitVec 4) :
    (Receiver.inside bytes).step (trainingWordOf k h) = (.outside, [.bad, .training k h]) := by
  simp only [Receiver.step, classifyWord_trainingWordOf]

/-- Data words outside a frame are ignored (R131). -/
theorem Receiver.run_outside_data (bytes : List Byte) : Receiver.run .outside (bytes.map dataWord) = (.outside, []) := by
  induction bytes with
  | nil => rfl
  | cons b bs ih => rw [List.map_cons, Receiver.run_cons, Receiver.step_outside_data, ih]; rfl

/-! #### A frame as its bytes arrive -/

theorem receiveByte_bad_header {k n : Byte} (h : headerOk k n = false) : receiveByte [k, n] = (.outside, [.bad]) := by
  simp [receiveByte, h]

theorem receiveByte_waits {k n : Byte} (h : headerOk k n = true) {rest : List Byte} (hlen : rest.length < n.toNat + 2) :
    receiveByte (k :: n :: rest) = (.inside (k :: n :: rest), []) := by
  simp [receiveByte, h, hlen]

theorem receiveByte_ends {k n : Byte} (h : headerOk k n = true) {rest : List Byte} (hlen : rest.length = n.toNat + 2) :
    receiveByte (k :: n :: rest) = (.outside, [judgeFrame (k :: n :: rest)]) := by
  simp [receiveByte, h, hlen]

theorem Receiver.run_inside_byte (bytes : List Byte) (b : Byte) :
    Receiver.run (.inside bytes) [dataWord b] = receiveByte (bytes ++ [b]) := by
  rw [Receiver.run_cons, Receiver.step_inside_data]
  exact Prod.ext rfl (List.append_nil _)

theorem Receiver.run_inside_header (k n : Byte) : Receiver.run (.inside []) [dataWord k, dataWord n] = receiveByte [k, n] := by
  rw [Receiver.run_cons, Receiver.step_inside_data]
  exact Receiver.run_inside_byte [k] n

/-- One more byte behind bytes that leave the receiver waiting. -/
theorem Receiver.run_inside_snoc {bytes : List Byte} (h : Receiver.run (.inside []) (bytes.map dataWord) = (.inside bytes, [])) (b : Byte) :
    Receiver.run (.inside []) ((bytes ++ [b]).map dataWord) = receiveByte (bytes ++ [b]) := by
  rw [List.map_append, List.map_singleton, Receiver.run_append, h]
  exact Receiver.run_inside_byte bytes b

/-- Behind a well-formed header the receiver waits until the check has arrived (R131). -/
theorem Receiver.run_inside_waits {k n : Byte} (h : headerOk k n = true) (rest : List Byte) :
    rest.length < n.toNat + 2 → Receiver.run (.inside []) ((k :: n :: rest).map dataWord) = (.inside (k :: n :: rest), []) := by
  induction rest using List.reverseRecOn with
  | nil => exact fun hlen => (Receiver.run_inside_header k n).trans (receiveByte_waits h hlen)
  | append_singleton rest b ih =>
    intro hlen
    have hshort : rest.length < n.toNat + 2 := by rw [List.length_append, List.length_singleton] at hlen; omega
    exact (Receiver.run_inside_snoc (ih hshort) b).trans (receiveByte_waits h hlen)

/-- At the end of the check the frame is judged (R132, R133). -/
theorem Receiver.run_inside_ends {k n : Byte} (h : headerOk k n = true) {rest : List Byte} (hlen : rest.length = n.toNat + 2) :
    Receiver.run (.inside []) ((k :: n :: rest).map dataWord) = (.outside, [judgeFrame (k :: n :: rest)]) := by
  have hne : rest ≠ [] := fun he => by rw [he, List.length_nil] at hlen; omega
  have hsplit := List.dropLast_append_getLast hne
  have hshort : rest.dropLast.length < n.toNat + 2 := by rw [List.length_dropLast]; omega
  have hrun := Receiver.run_inside_snoc (Receiver.run_inside_waits h rest.dropLast hshort) (rest.getLast hne)
  rw [List.cons_append, List.cons_append, hsplit] at hrun
  rw [hrun]
  exact receiveByte_ends h hlen

theorem FrameKind.ofByte_code (k : FrameKind) : FrameKind.ofByte k.code = some k := by cases k <;> decide

theorem FrameKind.length_lt {k : FrameKind} {n : Nat} (h : k.lengthOk n = true) : n < 256 := by
  cases k <;> have := of_decide_eq_true h <;> omega

theorem Frame.headerOk_of_wf {f : Frame} (h : f.wf = true) : headerOk f.kind.code (u8 f.payload.length) = true := by
  rw [headerOk, FrameKind.ofByte_code, u8_toNat_of_lt (FrameKind.length_lt h)]
  exact h

theorem crcBytes_length (bytes : List Byte) : (crcBytes bytes).length = 2 := rfl

/-- A frame judged: the one sent where its check is that of its header and payload, and bad where it is not (R132). -/
theorem judgeFrame_eq (f : Frame) {check : List Byte} (hc : check.length = 2) :
    judgeFrame (f.header ++ f.payload ++ check) = if check = crcBytes (f.header ++ f.payload) then .frame f else .bad := by
  have hlen : (f.header ++ f.payload ++ check).length - 2 = (f.header ++ f.payload).length := by rw [List.length_append, hc]; omega
  have hcons : f.header ++ f.payload ++ check = f.kind.code :: (u8 f.payload.length :: f.payload ++ check) := rfl
  unfold judgeFrame
  rw [hlen]
  dsimp only
  rw [List.drop_left, List.take_left, hcons]
  dsimp only
  rw [FrameKind.ofByte_code]
  rfl

/-- What a receiver inside a frame makes of the bytes of a frame whose header is well-formed. -/
theorem Receiver.run_inside_frame {f : Frame} (h : f.wf = true) {check : List Byte} (hc : check.length = 2) :
    Receiver.run (.inside []) ((f.header ++ f.payload ++ check).map dataWord) =
      (.outside, [if check = crcBytes (f.header ++ f.payload) then .frame f else .bad]) := by
  have hlen : (f.payload ++ check).length = (u8 f.payload.length).toNat + 2 := by
    rw [List.length_append, hc, u8_toNat_of_lt (FrameKind.length_lt h)]
  rw [← judgeFrame_eq f hc]
  exact Receiver.run_inside_ends (Frame.headerOk_of_wf h) hlen

/-- A header of an undefined kind, or with a length outside its kind's range, is malformed (R131). -/
theorem headerOk_of_malformed {k n : Byte}
    (h : 5 ≤ k.toNat ∨ (k = 0 ∧ n ≠ 0) ∨ (k = 1 ∧ n ≠ 129) ∨ (k = 2 ∧ n ≠ 131) ∨ ((k = 3 ∨ k = 4) ∧ (n.toNat < 3 ∨ 243 < n.toNat))) :
    headerOk k n = false := by
  have hne {b : Byte} (hn : n ≠ b) : n.toNat ≠ b.toNat := fun he => hn (BitVec.eq_of_toNat_eq he)
  rcases h with h | ⟨rfl, hn⟩ | ⟨rfl, hn⟩ | ⟨rfl, hn⟩ | ⟨rfl | rfl, hn⟩
  · have hk (b : Byte) (hb : b.toNat < 5) : k ≠ b := fun he => by rw [he] at h; omega
    have hnone : FrameKind.ofByte k = none := by
      rw [FrameKind.ofByte, if_neg (hk 0 (by decide)), if_neg (hk 1 (by decide)), if_neg (hk 2 (by decide)), if_neg (hk 3 (by decide)),
        if_neg (hk 4 (by decide))]
    rw [headerOk, hnone]
  · exact decide_eq_false (hne hn)
  · exact decide_eq_false (hne hn)
  · exact decide_eq_false (hne hn)
  · exact decide_eq_false (by omega)
  · exact decide_eq_false (by omega)

/-! #### Frames as commands (R196) -/

theorem slotsOf_toList (slots : Slots) : slotsOf slots.toList = slots := by
  refine vector_ext fun i => ?_
  rw [slotsOf, get_ofFn, List.getD_eq_getElem _ _ (by rw [Vector.length_toList]; exact i.isLt), Vector.getElem_toList]
  rfl

theorem Frame.wf_of_length {f : Frame} {n : Nat} (hlen : f.payload.length = n) (h : f.kind.lengthOk n = true) : f.wf = true := by
  rw [Frame.wf, hlen]
  exact h

/-- A payload of three bytes and up to 240 more fits a REQUEST and a REPLY (R131). -/
theorem lengthOk_three_more {n : Nat} (h : n ≤ 240) : decide (3 ≤ n + 3 ∧ n + 3 ≤ 243) = true := decide_eq_true (by omega)

/-- Settles O54: a frame's bytes keep the receiver waiting up to the last byte of its check, where it is judged. -/
theorem receiverFindsEverySentFrame : Obligations.ReceiverFindsEverySentFrame := by
  have start (ws : List LinkWord) : Receiver.run .outside (startWord :: ws) = Receiver.run (.inside []) ws := by
    rw [Receiver.run_cons, Receiver.step_outside_start]
    rfl
  have restart (bytes : List Byte) (ws : List LinkWord) :
      Receiver.run (.inside bytes) (startWord :: ws) = ((Receiver.run (.inside []) ws).1, .bad :: (Receiver.run (.inside []) ws).2) := by
    rw [Receiver.run_cons, Receiver.step_inside_start]
    rfl
  have whole {f : Frame} (h : f.wf = true) : Receiver.run (.inside []) (f.bytes.map dataWord) = (.outside, [.frame f]) := by
    have hrun := Receiver.run_inside_frame h (crcBytes_length (f.header ++ f.payload))
    rw [if_pos rfl] at hrun
    exact hrun
  refine ⟨fun f h => ?found, fun f bytes h => ?inFrame, fun f check h hc hne => ?badCheck, fun k n h => ?badHeader, Receiver.run_outside_data,
    fun bytes k h => ?cut, fun k h => ?training, fun n slots => ⟨?sweepWf, ?sweep⟩, fun t g k p hp => ⟨?requestWf, ?request⟩,
    fun n o a slots => ⟨?returnWf, ?ret⟩, fun s g st p r hp => ⟨?replyWf, rfl⟩⟩
  case found => exact (start _).trans (whole h)
  case inFrame =>
    rw [Frame.words, restart, whole h]
  case badCheck =>
    have hrun := Receiver.run_inside_frame h hc
    have hne : check ≠ crcBytes (f.header ++ f.payload) := hne
    rw [if_neg hne] at hrun
    exact (start _).trans hrun
  case badHeader =>
    rw [start, Receiver.run_inside_header]
    exact receiveByte_bad_header (headerOk_of_malformed h)
  case cut =>
    rw [Receiver.run_cons, Receiver.step_inside_training]
    rfl
  case training =>
    rw [Receiver.run_cons, Receiver.step_outside_training]
    rfl
  case sweepWf => exact Frame.wf_of_length (congrArg (· + 1) slots.length_toList) rfl
  case sweep =>
    change Instr.upstreamSweep n (slotsOf slots.toList) = _
    rw [slotsOf_toList]
  case requestWf => exact Frame.wf_of_length (n := p.length + 3) rfl (lengthOk_three_more hp)
  case request => rfl
  case returnWf => exact Frame.wf_of_length (congrArg (· + 3) slots.length_toList) rfl
  case ret =>
    change Instr.downstreamReturn n ((flagByte a).getLsbD 0) o (slotsOf slots.toList) = _
    rw [slotsOf_toList]
    cases a <;> rfl
  case replyWf => exact Frame.wf_of_length (n := p.length + 3) rfl (lengthOk_three_more hp)

end Sys2Proof.Machine

/-! ### The save, and the transfers on the bus (R180, R182, R184, R192, R193) -/

namespace Sys2Proof.Machine

open Safety

/-! #### The writes of a save (R192) -/

theorem pageWrites_nil (n offset : Nat) : pageWrites n offset [] = [] := by cases n <;> rfl

theorem pageWrites_cons (n offset : Nat) {bytes : List Byte} (h : bytes ≠ []) :
    pageWrites (n + 1) offset bytes = { step := .body, offset, bytes := bytes.take 32 } :: pageWrites n (offset + 32) (bytes.drop 32) := by
  rw [pageWrites, if_neg (by rw [List.isEmpty_iff]; exact h)]

/-- Each page write is of one aligned page. -/
theorem mem_pageWrites {n offset : Nat} {bytes : List Byte} (ho : offset % 32 = 0) (h2 : 2 ≤ offset) {w : SaveWrite} (h : w ∈ pageWrites n offset bytes) :
    w.step = .body ∧ 2 ≤ w.offset ∧ 1 ≤ w.bytes.length ∧ w.offset % 32 + w.bytes.length ≤ 32 := by
  induction n generalizing offset bytes with
  | zero => exact absurd h List.not_mem_nil
  | succ n ih =>
    by_cases hb : bytes = []
    · rw [hb, pageWrites_nil] at h
      exact absurd h List.not_mem_nil
    · rw [pageWrites_cons n offset hb] at h
      rcases List.mem_cons.mp h with rfl | h
      · have hpos := List.length_pos_iff.mpr hb
        refine ⟨rfl, h2, ?_, ?_⟩
        · rw [List.length_take]; omega
        · rw [ho, List.length_take]; omega
      · exact ih (by omega) (by omega) h

/-- The page writes carry the bytes in their order. -/
theorem flatten_pageWrites (n offset : Nat) (bytes : List Byte) (h : bytes.length ≤ n) :
    ((pageWrites n offset bytes).map (·.bytes)).flatten = bytes := by
  induction n generalizing offset bytes with
  | zero =>
    rw [List.eq_nil_of_length_eq_zero (Nat.le_zero.mp h)]
    rfl
  | succ n ih =>
    by_cases hb : bytes = []
    · rw [hb, pageWrites_nil]
      rfl
    · have hpos := List.length_pos_iff.mpr hb
      rw [pageWrites_cons n offset hb, List.map_cons, List.flatten_cons, ih _ _ (by rw [List.length_drop]; omega)]
      exact List.take_append_drop 32 bytes

theorem imageBytes_length (t : Tables) : 7 ≤ (imageBytes t).length := by
  rw [imageBytes_eq, imageChecked]
  simp only [List.length_append, crcBytes_length]
  change 7 ≤ 2 + (1 + 2 + _) + 2
  omega

/-- The writes between the erase and the marker (R192). -/
def bodyWrites (t : Tables) : List SaveWrite :=
  { step := .body, offset := 2, bytes := ((imageBytes t).drop 2).take 30 } :: pageWrites (imageBytes t).length 32 ((imageBytes t).drop 32)

theorem saveWrites_eq (t : Tables) :
    saveWrites t = { step := .erase, offset := 0, bytes := [0x00, 0x00] } ::
      (bodyWrites t ++ [{ step := .marker, offset := 0, bytes := [0xC3, 0x5A] }]) := rfl

theorem mem_bodyWrites {t : Tables} {w : SaveWrite} (h : w ∈ bodyWrites t) :
    w.step = .body ∧ 2 ≤ w.offset ∧ 1 ≤ w.bytes.length ∧ w.offset % 32 + w.bytes.length ≤ 32 := by
  have hlen := imageBytes_length t
  rcases List.mem_cons.mp h with rfl | h
  · refine ⟨rfl, le_rfl, ?_, ?_⟩
    · rw [List.length_take, List.length_drop]; omega
    · rw [List.length_take]
      change 2 + _ ≤ 32
      omega
  · exact mem_pageWrites (by decide) (by decide) h

theorem flatten_bodyWrites (t : Tables) : ((bodyWrites t).map (·.bytes)).flatten = (imageBytes t).drop 2 := by
  have hdrop : (imageBytes t).drop 32 = ((imageBytes t).drop 2).drop 30 := by rw [List.drop_drop]
  rw [bodyWrites, List.map_cons, List.flatten_cons, flatten_pageWrites _ _ _ (by rw [List.length_drop]; omega), hdrop]
  exact List.take_append_drop 30 _

/-! #### The transfers (R182, R184) -/

theorem readData_append (bytes : List Byte) (b : Byte) : readData (bytes ++ [b]) = bytes.map (.read · true) ++ [.read b false] := by
  induction bytes with
  | nil => rfl
  | cons x xs ih =>
    have hcons : readData ((x :: xs) ++ [b]) = .read x true :: readData (xs ++ [b]) := by cases xs <;> rfl
    rw [hcons, ih]
    rfl

theorem Memory.readBytes_succ (m : Memory) (offset n : Nat) :
    Memory.readBytes m offset (n + 1) = (List.range n).map (fun i => Memory.read m (offset + i)) ++ [Memory.read m (offset + n)] := by
  unfold Memory.readBytes
  rw [List.range_succ, List.map_append]
  rfl

theorem addressWrite_eq : addressWrite = [.start, .sent 0xAC] := by decide

theorem addressRead_eq : addressRead = [.start, .sent 0xAD] := by decide

theorem writeTransfer_eq (offset : Nat) (bytes : List Byte) :
    writeTransfer offset bytes =
      [.start, .sent 0xAC, .sent (BitVec.ofNat 8 (offset / 256)), .sent (BitVec.ofNat 8 offset)] ++ bytes.map .sent := by
  rw [writeTransfer, addressWrite_eq]
  rfl

theorem readTransfer_eq (m : Memory) (offset n : Nat) :
    readTransfer m offset (n + 1) =
      [.start, .sent 0xAC, .sent (BitVec.ofNat 8 (offset / 256)), .sent (BitVec.ofNat 8 offset)] ++ [.start, .sent 0xAD] ++
        (List.range n).map (fun i => .read (Memory.read m (offset + i)) true) ++ [.read (Memory.read m (offset + n)) false] := by
  rw [readTransfer, writeTransfer_eq, addressRead_eq, Memory.readBytes_succ, readData_append, List.map_map, List.map_nil, List.append_nil,
    ← List.append_assoc]
  rfl

theorem marker_iff (m : Memory) : Memory.readBytes m 0 2 = imageMarker ↔ Memory.read m 0 = 0xC3 ∧ Memory.read m 1 = 0x5A := by
  change [Memory.read m (0 + 0), Memory.read m (0 + 1)] = [0xC3, 0x5A] ↔ _
  simp

theorem Cmp.tickTransfers_held {c : Cmp} {now : Nat} (h : Passed c.heldLow 0 now) : c.tickTransfers now = [] :=
  if_pos ((passed_of_reached _ _).mpr h)

/-- What passes at a tick on a free bus. -/
theorem Cmp.tickTransfers_free {c : Cmp} {now : Nat} (h : ¬ Passed c.heldLow 0 now) :
    c.tickTransfers now =
      match c.state, c.waitStart with
      | .loading, some start =>
        if c.readStart.isSome || decide (start + Config.acknowledgeMs < now) then []
        else if c.acknowledges now then [addressWrite, readTransfer c.mem 0 (imageReadCount c.mem)]
        else [addressWrite]
      | .saving (w :: _), none => if c.acknowledges now then [writeTransfer w.offset w.bytes] else [addressWrite]
      | .saving (_ :: _), some start => if start + Config.acknowledgeMs < now then [] else [addressWrite]
      | _, _ => [] :=
  if_neg fun hr => h ((passed_of_reached _ _).mp hr)

/-- A CMP that is IDLE, whose load is not in its wait, or whose wait is over sends nothing. -/
theorem Cmp.tickTransfers_quiet {c : Cmp} {start now : Nat}
    (h : c.state = .idle ∨ (c.state = .loading ∧ (c.waitStart = none ∨ c.readStart ≠ none)) ∨ (c.waitStart = some start ∧ start + 10 < now)) :
    c.tickTransfers now = [] := by
  by_cases hheld : Passed c.heldLow 0 now
  · exact Cmp.tickTransfers_held hheld
  · rw [Cmp.tickTransfers_free hheld]
    rcases h with h | ⟨h, hw | hr⟩ | ⟨hw, hlt⟩
    · rw [h]
    · rw [h, hw]
    · rw [h]
      cases hw : c.waitStart with
      | none => rfl
      | some start =>
        have hsome : c.readStart.isSome = true := Option.isSome_iff_ne_none.mpr hr
        simp only [hsome, Bool.true_or, if_true]
    · rw [hw]
      have hover : decide (start + Config.acknowledgeMs < now) = true := decide_eq_true hlt
      have hlt' : start + Config.acknowledgeMs < now := hlt
      rcases c.state with _ | _ | (_ | _)
      · rfl
      · simp only [hover, Bool.or_true, if_true]
      · rfl
      · simp only [hlt', if_true]

theorem Cmp.tickTransfers_loading {c : Cmp} {start now : Nat} (hw : c.waitStart = some start) (hle : now ≤ start + 10) (hs : c.state = .loading)
    (hr : c.readStart = none) (hheld : ¬ Passed c.heldLow 0 now) :
    c.tickTransfers now = if c.acknowledges now = true then [[.start, .sent 0xAC], readTransfer c.mem 0 (imageReadCount c.mem)] else [[.start, .sent 0xAC]] := by
  have hnot : ¬ (c.readStart.isSome || decide (start + Config.acknowledgeMs < now)) = true := by
    rw [hr, Option.isSome_none, Bool.false_or, decide_eq_true_eq]
    exact Nat.not_lt.mpr hle
  rw [Cmp.tickTransfers_free hheld, hs, hw, ← addressWrite_eq]
  exact if_neg hnot

theorem Cmp.tickTransfers_erase {c : Cmp} {w : SaveWrite} {rest : List SaveWrite} {now : Nat} (hs : c.state = .saving (w :: rest)) (hw : c.waitStart = none)
    (hheld : ¬ Passed c.heldLow 0 now) :
    c.tickTransfers now = if c.acknowledges now = true then [writeTransfer w.offset w.bytes] else [[.start, .sent 0xAC]] := by
  rw [Cmp.tickTransfers_free hheld, hs, hw, ← addressWrite_eq]

theorem Cmp.tickTransfers_saving {c : Cmp} {w : SaveWrite} {rest : List SaveWrite} {start now : Nat} (hs : c.state = .saving (w :: rest))
    (hw : c.waitStart = some start) (hle : now ≤ start + 10) (hheld : ¬ Passed c.heldLow 0 now) : c.tickTransfers now = [[.start, .sent 0xAC]] := by
  rw [Cmp.tickTransfers_free hheld, hs, hw, ← addressWrite_eq]
  exact if_neg (Nat.not_lt.mpr hle)

/-! #### The acknowledge and the failure (R192, R193) -/

theorem Cmp.inTime_iff (c : Cmp) (now : Nat) : c.inTime now = true ↔ ∃ start, c.waitStart = some start ∧ now ≤ start + 10 ∧ Acknowledges c now := by
  unfold Cmp.inTime
  cases c.waitStart with
  | none => exact iff_of_false Bool.false_ne_true fun ⟨_, he, _⟩ => Option.some_ne_none _ he.symm
  | some start =>
    rw [Cmp.answered_iff]
    exact ⟨fun h => ⟨start, rfl, h⟩, fun ⟨_, he, h⟩ => by cases he; exact h⟩

theorem exec_saveWriteAcknowledged_not {s : State} (h : ¬ s.cmp.inTime s.now = true) : exec .saveWriteAcknowledged s = .next s := if_neg h

theorem exec_saveWriteAcknowledged {s : State} (h : s.cmp.inTime s.now = true) :
    exec .saveWriteAcknowledged s =
      match s.cmp.state with
      | .saving (w :: w' :: rest) =>
        .next
          { s with
            cmp := { s.cmp with
              state := .saving (w' :: rest), mem := Memory.writeBytes s.cmp.mem w.offset w.bytes, waitStart := some s.now } }
      | .saving [w] => .next (s.endSave (Memory.writeBytes s.cmp.mem w.offset w.bytes) .saveDone)
      | _ => .next s := if_pos h

theorem exec_saveFailed_of_saving {s : State} {writes : List SaveWrite} (h : s.cmp.state = .saving writes) :
    exec .saveFailed s = .next (State.endSave { s with freeCount := s.freeCount + 1 } (s.cmp.failWrite s.freeCount) .saveFailed) := by
  change execSaveFailed s = _
  unfold execSaveFailed
  rw [h]

theorem Cmp.failWrite_untouched {c : Cmp} {w : SaveWrite} {rest : List SaveWrite} (hs : c.state = .saving (w :: rest))
    (h : w.step = .erase ∨ c.waitStart = none) (count : Nat) : c.failWrite count = c.mem := by
  unfold Cmp.failWrite
  cases hsent : c.sentWrite with
  | none => rfl
  | some v =>
    obtain ⟨⟨rest', hs'⟩, start, hw⟩ := Cmp.sentWrite_eq_some.mp hsent
    obtain ⟨rfl, -⟩ := List.cons.inj (CmpState.saving.inj (hs.symm.trans hs'))
    have herase := h.resolve_right fun hn => Option.some_ne_none _ (hw.symm.trans hn)
    dsimp only
    rw [herase]

theorem Cmp.read_failWrite {c : Cmp} {w : SaveWrite} {rest : List SaveWrite} (hs : c.state = .saving (w :: rest)) (count a : Nat)
    (h : a < w.offset ∨ w.offset + w.bytes.length ≤ a) : Memory.read (c.failWrite count) a = Memory.read c.mem a := by
  unfold Cmp.failWrite
  cases hsent : c.sentWrite with
  | none => rfl
  | some v =>
    obtain ⟨⟨rest', hs'⟩, -⟩ := Cmp.sentWrite_eq_some.mp hsent
    obtain ⟨rfl, -⟩ := List.cons.inj (CmpState.saving.inj (hs.symm.trans hs'))
    dsimp only
    split
    · rfl
    · exact Memory.read_writeLanding_outside _ _ _ h

/-- Settles O53: the writes and the transfers said once each, and then the acknowledge and the failure by the write in front. -/
theorem saveWritesTheImageInOrder : Obligations.SaveWritesTheImageInOrder := by
  refine ⟨fun tag s hs => ?save, fun t => ⟨bodyWrites t, saveWrites_eq t, fun w => mem_bodyWrites, flatten_bodyWrites t⟩,
    fun m offset n bytes => ⟨writeTransfer_eq offset bytes, readTransfer_eq m offset n⟩, fun m => ?count, fun w w' rest c start now => ?bus,
    fun w w' rest s start => ⟨fun h => ?never, fun hw hle hready hs => ?next, fun hw hle hready hs => ?last, fun hs => ?failed⟩⟩
  case save => exact congrArg Host.Outcome.next (hand_eq_serve hs tag .configSave .configSave)
  case count =>
    unfold imageReadCount
    dsimp only
    rw [← marker_iff m]
    refine ⟨fun h => if_pos h, fun h hv => ?_, fun h hv hl => ?_, fun h hv hl => ?_⟩
    · rw [if_neg (not_not.mpr h)]
      exact if_pos hv
    · have hv : Memory.read m 2 = imageVersion := hv
      rw [if_neg (not_not.mpr h), if_neg (not_not.mpr hv)]
      exact if_pos hl
    · have hv : Memory.read m 2 = imageVersion := hv
      rw [if_neg (not_not.mpr h), if_neg (not_not.mpr hv)]
      exact if_neg (Nat.not_lt.mpr hl)
  case bus =>
    refine ⟨fun h => h.elim Cmp.tickTransfers_held Cmp.tickTransfers_quiet, fun hw hle hs hr => ⟨fun hready => ?_, fun hnot hheld => ?_⟩,
      fun hs => ⟨fun hw hready => ?_, fun hw hnot hheld => ?_, fun hw hle hheld => Cmp.tickTransfers_saving hs hw hle hheld⟩,
      fun hs => ?_, fun hs => ?_⟩
    · rw [Cmp.tickTransfers_loading hw hle hs hr hready.2, if_pos ((c.acknowledges_iff_ready now).mpr hready)]
    · rw [Cmp.tickTransfers_loading hw hle hs hr hheld, if_neg fun h => hnot ((c.acknowledges_iff_ready now).mp h)]
    · rw [Cmp.tickTransfers_erase hs hw hready.2, if_pos ((c.acknowledges_iff_ready now).mpr hready)]
    · rw [Cmp.tickTransfers_erase hs hw hheld, if_neg fun h => hnot ((c.acknowledges_iff_ready now).mp h)]
    · rw [Cmp.acknowledgeTransfers, hs]
    · rw [Cmp.acknowledgeTransfers, hs]
  case never =>
    refine exec_saveWriteAcknowledged_not fun ht => ?_
    obtain ⟨start', hw', hle', hready'⟩ := (s.cmp.inTime_iff _).mp ht
    rcases h with h | ⟨h, hlt⟩ | h
    · exact Option.some_ne_none _ (hw'.symm.trans h)
    · obtain rfl := Option.some.inj (hw'.symm.trans h)
      exact Nat.not_lt.mpr hle' hlt
    · exact h hready'
  case next =>
    rw [exec_saveWriteAcknowledged ((s.cmp.inTime_iff _).mpr ⟨start, hw, hle, hready⟩), hs]
    rfl
  case last =>
    rw [exec_saveWriteAcknowledged ((s.cmp.inTime_iff _).mpr ⟨start, hw, hle, hready⟩), hs]
    rfl
  case failed =>
    exact ⟨s.cmp.failWrite s.freeCount, exec_saveFailed_of_saving hs, fun h => Cmp.failWrite_untouched hs h _, fun a h => Cmp.read_failWrite hs _ a h⟩

end Sys2Proof.Machine

/-! ### The status records (R69, R93, R127, R174, R175, section 11.4) -/

namespace Sys2Proof.Machine

open Safety

/-! #### Fields of a record -/

@[simp] theorem fieldAt_skip_byte (b : Byte) (l : List Byte) (off len : Nat) : fieldAt (b :: l) (off + 1) len = fieldAt l off len := rfl

theorem fieldAt_skip (pre l : List Byte) (off len : Nat) : fieldAt (pre ++ l) (pre.length + off) len = fieldAt l off len := by
  rw [fieldAt, fieldAt, List.drop_length_add_append]

@[simp] theorem fieldAt_skip_u16 (n : Nat) (l : List Byte) (off len : Nat) : fieldAt (u16 n ++ l) (off + 2) len = fieldAt l off len := rfl

@[simp] theorem fieldAt_skip_u32 (n : Nat) (l : List Byte) (off len : Nat) : fieldAt (u32 n ++ l) (off + 4) len = fieldAt l off len := rfl

/-- A field that lies within the first bytes does not see those behind them. -/
theorem fieldAt_within {x : List Byte} (l : List Byte) {off len : Nat} (h : off + len ≤ x.length) :
    fieldAt (x ++ l) off len = fieldAt x off len := by
  rw [fieldAt, fieldAt, List.drop_append_of_le_length (by omega), List.take_append_of_le_length (by rw [List.length_drop]; omega)]

@[simp] theorem fieldAt_byte (b : Byte) (l : List Byte) : fieldAt (b :: l) 0 1 = b.toNat := by
  simp [fieldAt]

@[simp] theorem fieldAt_u16 (n : Nat) (l : List Byte) : fieldAt (u16 n ++ l) 0 2 = n % 65536 := by
  simp only [fieldAt, u16, List.cons_append, List.nil_append, List.drop_zero, List.take_succ_cons, List.take_zero, List.foldl_cons,
    List.foldl_nil, u8_toNat]
  omega

@[simp] theorem fieldAt_u32 (n : Nat) (l : List Byte) : fieldAt (u32 n ++ l) 0 4 = n % 4294967296 := by
  simp only [fieldAt, u32, List.cons_append, List.nil_append, List.drop_zero, List.take_succ_cons, List.take_zero, List.foldl_cons,
    List.foldl_nil, u8_toNat]
  omega

/-- Record i of records of k bytes each stands at byte k·i. -/
theorem fieldAt_flatMap {α : Type} {f : α → List Byte} {k : Nat} (hf : ∀ x, (f x).length = k) (l : List α) {i : Nat} (hi : i < l.length)
    {off len : Nat} (hfit : off + len ≤ k) (rest : List Byte) :
    fieldAt (l.flatMap f ++ rest) (k * i + off) len = fieldAt (f l[i]) off len := by
  induction l generalizing i with
  | nil => exact absurd hi (by simp)
  | cons a l ih =>
    rw [List.flatMap_cons, List.append_assoc]
    cases i with
    | zero => rw [Nat.mul_zero, Nat.zero_add, fieldAt_within _ (by rw [hf]; exact hfit)]; rfl
    | succ i =>
      rw [show k * (i + 1) + off = (f a).length + (k * i + off) by rw [hf]; ring, fieldAt_skip]
      exact ih (Nat.lt_of_succ_lt_succ hi)

theorem fieldAt_flatMap_finRange {n : Nat} {f : Fin n → List Byte} {k : Nat} (hf : ∀ x, (f x).length = k) (i : Fin n) {off len : Nat}
    (hfit : off + len ≤ k) (rest : List Byte) :
    fieldAt ((List.finRange n).flatMap f ++ rest) (k * i.val + off) len = fieldAt (f i) off len := by
  rw [fieldAt_flatMap hf _ (by rw [List.length_finRange]; exact i.isLt) hfit, List.getElem_finRange]
  rfl

/-- Byte i of bytes that stand one to an entry. -/
theorem fieldAt_map {α : Type} (f : α → Byte) (l : List α) {i : Nat} (hi : i < l.length) (rest : List Byte) :
    fieldAt (l.map f ++ rest) i 1 = (f l[i]).toNat := by
  have := fieldAt_flatMap (f := fun x => [f x]) (fun _ => rfl) l hi (off := 0) (len := 1) (Nat.le_refl 1) rest
  rw [Nat.one_mul, Nat.add_zero, fieldAt_byte] at this
  rw [List.map_eq_flatMap]
  exact this

/-! #### The values of fields -/

theorem u8_toNat_of_le {n : Nat} (h : n ≤ 255) : (u8 n).toNat = n := by
  rw [u8_toNat]
  omega

theorem u8_fin {n : Nat} (h : n ≤ 256) (i : Fin n) : (u8 i.val).toNat = i.val := u8_toNat_of_le (by have := i.isLt; omega)

theorem flagByte_toNat (b : Bool) : (flagByte b).toNat = if b = true then 1 else 0 := by
  cases b <;> rfl

theorem optional8_toNat (o : Option Nat) : (optional8 o).toNat = sent 8 255 o := by
  cases o with
  | none => rfl
  | some n => exact u8_toNat n

theorem positionByte_toNat (p : Option (Fin 4)) : (positionByte p).toNat = sent 8 255 (p.map (·.val)) := by
  cases p with
  | none => rfl
  | some n => exact u8_toNat n.val

/-- An absent two-byte value is sent as its marker. -/
theorem optional16_eq (o : Option Nat) : optional16 o = u16 (o.getD 0xFFFF) := by
  cases o <;> rfl

theorem sent_16 (o : Option Nat) : o.getD 0xFFFF % 65536 = sent 16 0xFFFF o := by
  cases o <;> rfl

theorem temperatureBytes_eq (o : Option Int) : temperatureBytes o = u16 (sentTemperature o) := by
  cases o <;> rfl

theorem sentTemperature_lt (o : Option Int) : sentTemperature o < 65536 := by
  cases o with
  | none => decide
  | some t =>
    rw [sentTemperature]
    omega

theorem remainingBytes_eq (d : Option Nat) (now : Nat) : remainingBytes d now = u32 ((d.map (· - now)).getD 0xFFFFFFFF) := by
  cases d <;> rfl

theorem sent_32 (o : Option Nat) : o.getD 0xFFFFFFFF % 4294967296 = sent 32 0xFFFFFFFF o := by
  cases o <;> rfl

theorem bitsOf_lt (l : List Bool) : bitsOf l < 2 ^ l.length := by
  induction l with
  | nil => exact Nat.one_pos
  | cons b l ih =>
    rw [bitsOf, List.length_cons, pow_succ]
    split <;> omega

/-- Flags as a number have flag i at bit i. -/
theorem bitsOf_testBit (l : List Bool) {i : Nat} (h : i < l.length) : (bitsOf l).testBit i = l[i] := by
  induction l generalizing i with
  | nil => exact absurd h (by simp)
  | cons b l ih =>
    cases i with
    | zero => cases b <;> simp [bitsOf, Nat.testBit_zero, Nat.add_mod]
    | succ i =>
      rw [bitsOf, Nat.testBit_succ, List.getElem_cons_succ, ← ih (Nat.lt_of_succ_lt_succ h)]
      congr 1
      split <;> omega

theorem bitsOf_mod {l : List Bool} {n : Nat} (h : l.length ≤ n) : bitsOf l % 2 ^ n = bitsOf l :=
  Nat.mod_eq_of_lt ((bitsOf_lt l).trans_le (Nat.pow_le_pow_right (by decide) h))

theorem bitsOf_two (a b : Bool) : bitsOf [a, b] = (if a = true then 1 else 0) + if b = true then 2 else 0 := by
  cases a <;> cases b <;> rfl

theorem bitsOf_three (a b c : Bool) :
    bitsOf [a, b, c] = (if a = true then 1 else 0) + (if b = true then 2 else 0) + if c = true then 4 else 0 := by
  cases a <;> cases b <;> cases c <;> rfl

theorem u8_bitsOf {l : List Bool} (h : l.length ≤ 8) : (u8 (bitsOf l)).toNat = bitsOf l := by
  rw [u8_toNat]
  exact bitsOf_mod h

/-! #### The bays of a BAYS record (R174) -/

/-- The bays of a range that the part has are those from its first on. -/
theorem bays_in_range {first count : Nat} (h : first + count ≤ 24) :
    ((List.finRange 24).filter fun b => decide (first ≤ b.val ∧ b.val < first + count)).map (·.val) = List.range' first count := by
  have hcut : List.range 24 = List.range' 0 first ++ (List.range' first count ++ List.range' (first + count) (24 - (first + count))) := by
    have hbehind := List.range'_append (s := first) (m := count) (n := 24 - (first + count)) (step := 1)
    have hall := List.range'_append (s := 0) (m := first) (n := 24 - first) (step := 1)
    rw [Nat.one_mul, show count + (24 - (first + count)) = 24 - first by omega] at hbehind
    rw [Nat.one_mul, Nat.zero_add, show first + (24 - first) = 24 by omega] at hall
    rw [hbehind, hall, List.range_eq_range']
  have hvals : (List.finRange 24).map (fun b : Fin 24 => b.val) = List.range 24 := by decide
  rw [show (fun b : Fin 24 => decide (first ≤ b.val ∧ b.val < first + count)) =
      (fun n => decide (first ≤ n ∧ n < first + count)) ∘ fun b : Fin 24 => b.val from rfl, ← List.filter_map, hvals, hcut, List.filter_append, List.filter_append]
  rw [List.filter_eq_nil_iff.2, List.filter_eq_self.2, List.filter_eq_nil_iff.2, List.nil_append, List.append_nil] <;>
    intro n hn <;> rw [List.mem_range'_1] at hn <;> simp only [decide_eq_true_eq] <;> omega

theorem bayRecordBytes_length (s : State) (b : BayId) : (s.bayRecordBytes b).length = 24 := by
  simp [State.bayRecordBytes, remainingBytes_eq, u16, u32]

@[simp] theorem fieldAt_last_u32 (n : Nat) : fieldAt (u32 n) 0 4 = n % 4294967296 := by
  rw [← List.append_nil (u32 n), fieldAt_u32]

theorem fieldAt_last_u16 (n : Nat) : fieldAt (u16 n) 0 2 = n % 65536 := by
  rw [← List.append_nil (u16 n), fieldAt_u16]

/-! #### The SOURCES record (R69) -/

/-- The 8 bytes of a sensor in the SOURCES record. -/
def State.sensorRecordBytes (s : State) (k : SensorId) : List Byte :=
  [u8 s.sensors[k].state.code] ++ temperatureBytes s.sensors[k].held ++ temperatureBytes (s.sensorTemperature k) ++
    (s.tables.sensors[k]).encode

/-- The 5 bytes of a drive source in the SOURCES record. -/
def State.driveRecordBytes (s : State) (b : BayId) : List Byte :=
  [u8 s.drives[b].state.code, optional8 s.drives[b].value,
    optional8 (if s.drives[b].state = .valid then s.drives[b].reportTime.map fun t => (s.now - t) / 1000 else none),
    u8 (s.zoneOf b).val, flagByte (s.temperatureWanted b)]

theorem sourcesRecord_eq (s : State) :
    s.sourcesRecord = (List.finRange 4).flatMap s.sensorRecordBytes ++ (List.finRange 24).flatMap s.driveRecordBytes := rfl

theorem sensorRecordBytes_length (s : State) (k : SensorId) : (s.sensorRecordBytes k).length = 8 := by
  simp [State.sensorRecordBytes, SensorSetting.encode, temperatureBytes_length]

theorem driveRecordBytes_length (s : State) (b : BayId) : (s.driveRecordBytes b).length = 5 := rfl

theorem sensorRecords_length (s : State) : ((List.finRange 4).flatMap s.sensorRecordBytes).length = 32 :=
  flatMap_length _ _ 8 fun k _ => sensorRecordBytes_length s k

theorem sourcesRecord_length (s : State) : s.sourcesRecord.length = 152 := by
  rw [sourcesRecord_eq, List.length_append, sensorRecords_length,
    flatMap_length _ _ 5 fun b _ => driveRecordBytes_length s b, List.length_finRange]

theorem fieldAt_sensor (s : State) (k : SensorId) {off len : Nat} (hfit : off + len ≤ 8) :
    fieldAt s.sourcesRecord (8 * k.val + off) len = fieldAt (s.sensorRecordBytes k) off len := by
  rw [sourcesRecord_eq, fieldAt_flatMap_finRange (sensorRecordBytes_length s) k hfit]

theorem fieldAt_drive (s : State) (b : BayId) {off len : Nat} (hfit : off + len ≤ 5) :
    fieldAt s.sourcesRecord (32 + 5 * b.val + off) len = fieldAt (s.driveRecordBytes b) off len := by
  rw [sourcesRecord_eq, Nat.add_assoc, ← sensorRecords_length s, fieldAt_skip,
    ← List.append_nil ((List.finRange 24).flatMap _), fieldAt_flatMap_finRange (driveRecordBytes_length s) b hfit]

/-- The fields of a sensor in the SOURCES record. -/
theorem sourcesRecord_sensor (s : State) (k : SensorId) :
    let r := s.sourcesRecord
    let o := 8 * k.val
    let c := s.tables.sensors[k]
    fieldAt r o 1 = s.sensors[k].state.code ∧ fieldAt r (o + 1) 2 = sentTemperature s.sensors[k].held ∧
    fieldAt r (o + 3) 2 = sentTemperature
      (if s.sensors[k].state = .ok then s.sensors[k].held.map fun h => max (-80) (min 250 (h + c.offset)) else none) ∧
    fieldAt r (o + 5) 1 = (c.offset % 256).toNat ∧ fieldAt r (o + 6) 1 = c.curve.val ∧
    fieldAt r (o + 7) 1 = (if c.mask[0] then 1 else 0) + (if c.mask[1] then 2 else 0) + if c.mask[2] then 4 else 0 := by
  intro r o c
  have hat {off len : Nat} (hfit : off + len ≤ 8) : fieldAt r (o + off) len = fieldAt (s.sensorRecordBytes k) off len :=
    fieldAt_sensor s k hfit
  have hcode : s.sensors[k].state.code ≤ 255 := by cases s.sensors[k].state <;> decide
  have hbytes : s.sensorRecordBytes k =
      u8 s.sensors[k].state.code :: (u16 (sentTemperature s.sensors[k].held) ++ (u16 (sentTemperature (s.sensorTemperature k)) ++
        [s8 c.offset, u8 c.curve.val, u8 (bitsOf [c.mask[0], c.mask[1], c.mask[2]])])) := by
    rw [← temperatureBytes_eq, ← temperatureBytes_eq, ← List.append_assoc]
    rfl
  refine ⟨?_, ?_, ?_, ?_, ?_, ?_⟩
  · rw [← o.add_zero, hat (by decide), hbytes, fieldAt_byte, u8_toNat_of_le hcode]
  · rw [hat (by decide), hbytes, fieldAt_skip_byte, fieldAt_u16, Nat.mod_eq_of_lt (sentTemperature_lt _)]
  · rw [hat (by decide), hbytes, fieldAt_skip_byte, fieldAt_skip_u16 _ _ 0, fieldAt_u16, Nat.mod_eq_of_lt (sentTemperature_lt _)]
    rfl
  · rw [hat (by decide), hbytes, fieldAt_skip_byte, fieldAt_skip_u16, fieldAt_skip_u16 _ _ 0, fieldAt_byte, s8]
    exact u8_toNat_of_le (by omega)
  · rw [hat (by decide), hbytes, fieldAt_skip_byte, fieldAt_skip_u16, fieldAt_skip_u16, fieldAt_skip_byte, fieldAt_byte,
      u8_fin (by decide)]
  · rw [hat (by decide), hbytes, fieldAt_skip_byte, fieldAt_skip_u16, fieldAt_skip_u16, fieldAt_skip_byte, fieldAt_skip_byte,
      fieldAt_byte, u8_bitsOf (by simp), bitsOf_three]

/-- The fields of a drive source in the SOURCES record. -/
theorem sourcesRecord_drive (s : State) (b : BayId) :
    let r := s.sourcesRecord
    let o := 32 + 5 * b.val
    let x := s.drives[b]
    fieldAt r o 1 = x.state.code ∧ fieldAt r (o + 1) 1 = sent 8 255 x.value ∧
    fieldAt r (o + 2) 1 = sent 8 255 (if x.state = .valid then x.reportTime.map fun t => (s.tb.now - t) / 1000 else none) ∧
    fieldAt r (o + 3) 1 = s.tables.baySettings[b].zone.val ∧ fieldAt r (o + 4) 1 = (if x.state = .stale then 1 else 0) := by
  intro r o x
  have hat {off : Nat} (hfit : off + 1 ≤ 5) : fieldAt r (o + off) 1 = fieldAt (s.driveRecordBytes b) off 1 := fieldAt_drive s b hfit
  have hcode : x.state.code ≤ 255 := by cases x.state <;> decide
  refine ⟨?_, ?_, ?_, ?_, ?_⟩
  · rw [← o.add_zero, hat (by decide), State.driveRecordBytes, fieldAt_byte, u8_toNat_of_le hcode]
  · rw [hat (by decide), State.driveRecordBytes, fieldAt_skip_byte, fieldAt_byte, optional8_toNat]
  · simp only [hat, State.driveRecordBytes, fieldAt_skip_byte, fieldAt_byte, optional8_toNat, Nat.reduceAdd, Nat.reduceLeDiff]
    rfl
  · simp only [hat, State.driveRecordBytes, fieldAt_skip_byte, fieldAt_byte, Nat.reduceAdd, Nat.reduceLeDiff]
    exact u8_fin (by decide) _
  · simp only [hat, State.driveRecordBytes, fieldAt_skip_byte, fieldAt_byte, flagByte_toNat, State.temperatureWanted, Nat.reduceAdd,
      Nat.le_refl, decide_eq_true_eq]
    rfl

/-! #### The FANS and ZONES records (R93, R109) -/

/-- The 17 bytes of a fan in the FANS record. -/
def State.fanRecordBytes (s : State) (f : FanId) : List Byte :=
  let x := s.fans[f]
  [u8 x.state.code, u8 s.tables.fans[f].zone.val] ++ u16 x.duty ++ u32 x.divisor ++ u32 x.compare ++ optional16 x.lastRpm ++
    [u8 x.lowCount, u8 x.goodCount, optional8 (x.graceRemaining s.now)]

theorem fansRecord_eq (s : State) : s.fansRecord = (List.finRange 6).flatMap s.fanRecordBytes ++ [] :=
  (List.append_nil _).symm

theorem fanRecordBytes_length (s : State) (f : FanId) : (s.fanRecordBytes f).length = 17 := by
  simp [State.fanRecordBytes, u16, u32, optional16_eq]

theorem fansRecord_length (s : State) : s.fansRecord.length = 102 :=
  flatMap_length _ _ 17 fun f _ => fanRecordBytes_length s f

/-- The fields of a fan in the FANS record. -/
theorem fansRecord_fan (s : State) (f : FanId) :
    let r := s.fansRecord
    let o := 17 * f.val
    let x := s.fans[f]
    fieldAt r o 1 = x.state.code ∧ fieldAt r (o + 1) 1 = s.tables.fans[f].zone.val ∧ fieldAt r (o + 2) 2 = x.duty % 65536 ∧
    fieldAt r (o + 4) 4 = x.divisor % 2 ^ 32 ∧ fieldAt r (o + 8) 4 = x.compare % 2 ^ 32 ∧
    fieldAt r (o + 12) 2 = sent 16 0xFFFF x.lastRpm ∧ fieldAt r (o + 14) 1 = x.lowCount % 256 ∧
    fieldAt r (o + 15) 1 = x.goodCount % 256 ∧
    fieldAt r (o + 16) 1 = sent 8 255
      (if x.state = .starting then x.grace.map fun g => (g + 5000 - s.tb.now + 999) / 1000 else none) := by
  intro r o x
  have hat {off len : Nat} (hfit : off + len ≤ 17) : fieldAt r (o + off) len = fieldAt (s.fanRecordBytes f) off len := by
    rw [← fieldAt_flatMap_finRange (fanRecordBytes_length s) f hfit [], ← fansRecord_eq]
  have hcode : x.state.code ≤ 255 := by cases x.state <;> decide
  have hbytes : s.fanRecordBytes f =
      u8 x.state.code :: u8 s.tables.fans[f].zone.val :: (u16 x.duty ++ (u32 x.divisor ++ (u32 x.compare ++
        (u16 (x.lastRpm.getD 0xFFFF) ++ [u8 x.lowCount, u8 x.goodCount, optional8 (x.graceRemaining s.now)])))) := by
    rw [← optional16_eq]
    simp only [State.fanRecordBytes, List.append_assoc, List.cons_append, List.nil_append]
    rfl
  have hzero : fieldAt r o 1 = _ := hat (off := 0) (by decide)
  rw [hzero]
  simp only [hat, hbytes, fieldAt_skip_byte, fieldAt_skip_u16, fieldAt_skip_u32, fieldAt_byte, fieldAt_u16, fieldAt_u32, u8_toNat_of_le hcode,
    u8_toNat, optional8_toNat, sent_16, Nat.reduceAdd, Nat.reduceLeDiff, Nat.le_refl, Nat.reducePow, true_and]
  exact ⟨Nat.mod_eq_of_lt (by omega), rfl⟩

/-- The 17 bytes of a zone in the ZONES record. -/
def State.zoneRecordBytes (s : State) (z : ZoneId) : List Byte :=
  let x := s.zones[z]
  u16 x.held ++ u16 x.output ++ optional16 x.raw ++ optional16 x.target ++ optional16 x.weightFloor ++
    [u8 (bitsOf [x.floors.stale, x.floors.sensorFail, x.floors.linkLost]), u8 x.failedFans, u8 (bitsOf [x.hold, x.shed])] ++
    u32 ((x.shedSince.map s.uptimeAt).getD (Config.clearShedSince s.freeCount z.val).toNat)

theorem zonesRecord_eq (s : State) : s.zonesRecord = (List.finRange 3).flatMap s.zoneRecordBytes ++ [] :=
  (List.append_nil _).symm

theorem zoneRecordBytes_length (s : State) (z : ZoneId) : (s.zoneRecordBytes z).length = 17 := by
  simp [State.zoneRecordBytes, u16, u32, optional16_eq]

theorem zonesRecord_length (s : State) : s.zonesRecord.length = 51 :=
  flatMap_length _ _ 17 fun z _ => zoneRecordBytes_length s z

theorem uptimeAt_mod (s : State) (t : Nat) : s.uptimeAt t % 4294967296 = s.uptimeAt t := Nat.mod_mod _ _

/-- The fields of a zone in the ZONES record. -/
theorem zonesRecord_zone (s : State) (z : ZoneId) :
    let r := s.zonesRecord
    let o := 17 * z.val
    let x := s.zones[z]
    fieldAt r o 2 = x.held % 65536 ∧ fieldAt r (o + 2) 2 = x.output % 65536 ∧ fieldAt r (o + 4) 2 = sent 16 0xFFFF x.raw ∧
    fieldAt r (o + 6) 2 = sent 16 0xFFFF x.target ∧ fieldAt r (o + 8) 2 = sent 16 0xFFFF x.weightFloor ∧
    fieldAt r (o + 10) 1 =
      (if x.floors.stale then 1 else 0) + (if x.floors.sensorFail then 2 else 0) + (if x.floors.linkLost then 4 else 0) ∧
    fieldAt r (o + 11) 1 = x.failedFans % 256 ∧ fieldAt r (o + 12) 1 = (if x.hold then 1 else 0) + (if x.shed then 2 else 0) ∧
    ∀ t, x.shedSince = some t → fieldAt r (o + 13) 4 = s.uptimeAt t := by
  intro r o x
  have hat {off len : Nat} (hfit : off + len ≤ 17) : fieldAt r (o + off) len = fieldAt (s.zoneRecordBytes z) off len := by
    rw [← fieldAt_flatMap_finRange (zoneRecordBytes_length s) z hfit [], ← zonesRecord_eq]
  have hbytes : s.zoneRecordBytes z =
      u16 x.held ++ (u16 x.output ++ (u16 (x.raw.getD 0xFFFF) ++ (u16 (x.target.getD 0xFFFF) ++ (u16 (x.weightFloor.getD 0xFFFF) ++
        u8 (bitsOf [x.floors.stale, x.floors.sensorFail, x.floors.linkLost]) :: u8 x.failedFans :: u8 (bitsOf [x.hold, x.shed]) ::
          u32 ((x.shedSince.map s.uptimeAt).getD (Config.clearShedSince s.freeCount z.val).toNat))))) := by
    rw [← optional16_eq, ← optional16_eq, ← optional16_eq]
    simp only [State.zoneRecordBytes, List.append_assoc, List.cons_append, List.nil_append]
    rfl
  have hzero : fieldAt r o 2 = _ := hat (off := 0) (by decide)
  have hfloors := (u8_bitsOf (by simp)).trans (bitsOf_three x.floors.stale x.floors.sensorFail x.floors.linkLost)
  have hflags := (u8_bitsOf (by simp)).trans (bitsOf_two x.hold x.shed)
  rw [hzero]
  simp only [hat, hbytes, fieldAt_skip_byte, fieldAt_skip_u16, fieldAt_byte, fieldAt_u16, fieldAt_last_u32, hfloors, hflags,
    u8_toNat x.failedFans, sent_16, Nat.reduceAdd, Nat.reduceLeDiff, Nat.le_refl, true_and]
  intro t ht
  rw [ht, Option.map_some, Option.getD_some, uptimeAt_mod]

/-! #### The LINES record (R127) -/

/-- The 8 bytes of a bay in the LINES record. -/
def State.lineRecordBytes (s : State) (b : BayId) : List Byte :=
  u32 (bitsOf s.len.active[b].toList) ++ (s.len.lineA[b]).bytes ++ (s.len.lineB[b]).bytes

theorem linesRecord_eq (s : State) : s.linesRecord = (List.finRange 24).flatMap s.lineRecordBytes ++ [] :=
  (List.append_nil _).symm

theorem lineRecordBytes_length (s : State) (b : BayId) : (s.lineRecordBytes b).length = 8 := rfl

theorem linesRecord_length (s : State) : s.linesRecord.length = 192 :=
  flatMap_length _ _ 8 fun b _ => lineRecordBytes_length s b

/-- The fields of a bay in the LINES record. -/
theorem linesRecord_bay (s : State) (b : BayId) :
    let r := s.linesRecord
    let o := 8 * b.val
    (∀ id : IndicationId, (fieldAt r o 4).testBit id.val = s.len.active[b][id]) ∧
    (∀ x : Nat × Line, x = (o + 4, s.len.lineA[b]) ∨ x = (o + 6, s.len.lineB[b]) →
      fieldAt r x.1 1 = (if x.2.manual = none then 0 else 1) + (if x.2.driven then 2 else 0) ∧
      fieldAt r (x.1 + 1) 1 = sent 8 255 (x.2.shown.map (·.val))) := by
  intro r o
  have hat {off len : Nat} (hfit : off + len ≤ 8) : fieldAt r (o + off) len = fieldAt (s.lineRecordBytes b) off len := by
    rw [← fieldAt_flatMap_finRange (lineRecordBytes_length s) b hfit [], ← linesRecord_eq]
  have hbytes : s.lineRecordBytes b = u32 (bitsOf s.len.active[b].toList) ++ ((s.len.lineA[b]).bytes ++ (s.len.lineB[b]).bytes) :=
    List.append_assoc ..
  have hmode (l : Line) : (u8 (bitsOf [l.manual.isSome, l.driven])).toNat = (if l.manual = none then 0 else 1) + (if l.driven then 2 else 0) := by
    rw [u8_bitsOf (by simp), bitsOf_two]
    cases l.manual <;> rfl
  refine ⟨fun id => ?_, fun x hx => ?_⟩
  · have hlen : s.len.active[b].toList.length = 32 := Vector.length_toList
    have hmod : bitsOf s.len.active[b].toList % 4294967296 = _ := bitsOf_mod (n := 32) hlen.le
    rw [← o.add_zero, hat (by decide), hbytes, fieldAt_u32, hmod, bitsOf_testBit _ (by rw [hlen]; exact id.isLt),
      Vector.getElem_toList]
    rfl
  · rcases hx with rfl | rfl
    · simp only [hat, hbytes, Line.bytes, List.cons_append, fieldAt_skip_byte, fieldAt_skip_u32, fieldAt_byte, hmode, optional8_toNat, Nat.add_assoc,
        Nat.reduceAdd, Nat.reduceLeDiff, true_and]
    · simp only [hat, hbytes, Line.bytes, List.cons_append, List.nil_append, fieldAt_skip_byte, fieldAt_skip_u32, fieldAt_byte, hmode, optional8_toNat,
        Nat.add_assoc, Nat.reduceAdd, Nat.reduceLeDiff, Nat.le_refl, true_and]

/-! #### The BAYS record (R5, R174) -/

/-- The bays of a range, lowest first. -/
def rangeOfBays (first count : Nat) : List BayId := (List.finRange 24).filter fun b => decide (first ≤ b.val ∧ b.val < first + count)

theorem rangeOfBays_length {first count : Nat} (h : first + count ≤ 24) : (rangeOfBays first count).length = count := by
  rw [← List.length_map (f := fun b : BayId => b.val), rangeOfBays, bays_in_range h, List.length_range']

theorem rangeOfBays_get {first count : Nat} (h : first + count ≤ 24) {i : Nat} (hi : i < (rangeOfBays first count).length) {b : BayId}
    (hb : b.val = first + i) : (rangeOfBays first count)[i] = b := by
  have hval : ((rangeOfBays first count).map (·.val))[i]'(by rw [List.length_map]; exact hi) = first + i := by
    simp only [rangeOfBays, bays_in_range h, List.getElem_range', Nat.one_mul]
  rw [List.getElem_map] at hval
  exact Fin.ext (hval.trans hb.symm)

theorem baysRecord_eq (s : State) (first count : Nat) :
    s.baysRecord first count = u8 first :: u8 count :: ((rangeOfBays first count).flatMap s.bayRecordBytes ++ []) := by
  rw [List.append_nil]
  rfl

theorem baysRecord_length (s : State) {first count : Nat} (h : first + count ≤ 24) : (s.baysRecord first count).length = 2 + 24 * count := by
  rw [baysRecord_eq, List.append_nil, List.length_cons, List.length_cons, flatMap_length _ _ 24 fun b _ => bayRecordBytes_length s b,
    rangeOfBays_length h]
  omega

theorem fieldAt_bay (s : State) {first count : Nat} (h : first + count ≤ 24) {i : Nat} (hi : i < count) {b : BayId} (hb : b.val = first + i)
    {off len : Nat} (hfit : off + len ≤ 24) :
    fieldAt (s.baysRecord first count) (2 + 24 * i + off) len = fieldAt (s.bayRecordBytes b) off len := by
  have hi' : i < (rangeOfBays first count).length := by rwa [rangeOfBays_length h]
  rw [baysRecord_eq, show 2 + 24 * i + off = 24 * i + off + 1 + 1 by omega, fieldAt_skip_byte, fieldAt_skip_byte,
    fieldAt_flatMap (bayRecordBytes_length s) _ hi' hfit, rangeOfBays_get h hi' hb]

/-- A sound bay has one of the three deadlines that its state has room for, which is then the second deadline of its record. -/
theorem second_deadline {r : BayRecord} (hr : BaySound r) {d : Option Nat} (hd : d ∈ [r.pgDeadline, r.backoffDeadline, r.drainDeadline])
    (hsome : d ≠ none) : r.pgDeadline.or (r.backoffDeadline.or r.drainDeadline) = d := by
  obtain ⟨-, -, -, -, hpg, hdrain, hbackoff, -⟩ := hr
  have hpgNone (h : r.state ≠ .ramping) : r.pgDeadline = none := by
    rcases hp : r.pgDeadline with _ | p
    · rfl
    · exact absurd (hpg (by rw [hp]; rfl)) h
  have hbackoffNone (h : r.state ≠ .powerFault) : r.backoffDeadline = none := by
    rcases hp : r.backoffDeadline with _ | p
    · rfl
    · exact absurd (hbackoff.1 (by rw [hp]; rfl)) h
  obtain ⟨t, rfl⟩ := Option.ne_none_iff_exists'.1 hsome
  rcases List.mem_cons.1 hd with he | hd
  · rw [← he, Option.some_or]
  · rcases List.mem_cons.1 hd with he | hd
    · have hstate : r.state = .powerFault := hbackoff.1 (by rw [← he]; rfl)
      rw [hpgNone (by rw [hstate]; decide), ← he, Option.none_or, Option.some_or]
    · have he := List.mem_singleton.1 hd
      have hstate : r.state = .removing := hdrain.1 (by rw [← he]; rfl)
      rw [hpgNone (by rw [hstate]; decide), hbackoffNone (by rw [hstate]; decide), ← he, Option.none_or, Option.none_or]

/-- The fields of a bay in a BAYS record. -/
theorem baysRecord_bay (s : State) {first count : Nat} (h : first + count ≤ 24) {i : Nat} (hi : i < count) {b : BayId} (hb : b.val = first + i) :
    let r := s.baysRecord first count
    let o := 2 + 24 * i
    let x := s.bays[b]
    fieldAt r 0 1 = first ∧ fieldAt r 1 1 = count ∧ fieldAt r o 1 = b.val ∧ fieldAt r (o + 1) 1 = x.state.code ∧
    fieldAt r (o + 2) 1 = x.cls.val ∧ fieldAt r (o + 3) 2 = x.charge12 % 65536 ∧ fieldAt r (o + 5) 2 = x.charge5 % 65536 ∧
    fieldAt r (o + 7) 2 = x.steady12 % 65536 ∧ fieldAt r (o + 9) 1 = x.retryCount % 256 ∧
    (∀ k : Fin 8, (fieldAt r (o + 10) 1).testBit k.val =
      [x.shedParked, x.surprise, x.identify, x.marks[0], x.marks[1], x.marks[2], s.inputs[b].pg, s.inputs[b].flt][k]) ∧
    fieldAt r (o + 11) 1 = (if x.lastGrant = none then 0 else 1) ∧
    (∀ g, x.lastGrant = some g → fieldAt r (o + 12) 4 = g % 2 ^ 32) ∧
    fieldAt r (o + 16) 4 = sent 32 0xFFFFFFFF (x.rampDeadline.map (· - s.tb.now)) ∧
    (BaySound x → ∀ d ∈ [x.pgDeadline, x.backoffDeadline, x.drainDeadline], d ≠ none →
      fieldAt r (o + 20) 4 = sent 32 0xFFFFFFFF (d.map (· - s.tb.now))) ∧
    (x.pgDeadline = none → x.backoffDeadline = none → x.drainDeadline = none → fieldAt r (o + 20) 4 = 0xFFFFFFFF) := by
  intro r o x
  have hat {off len : Nat} (hfit : off + len ≤ 24) : fieldAt r (o + off) len = fieldAt (s.bayRecordBytes b) off len :=
    fieldAt_bay s h hi hb hfit
  have hzero : fieldAt r o 1 = _ := hat (off := 0) (by decide)
  have hcode : x.state.code ≤ 255 := by cases x.state <;> decide
  have hfirst : fieldAt r 0 1 = first := (fieldAt_byte _ _).trans (u8_toNat_of_le (by omega))
  have hcount : fieldAt r 1 1 = count := (fieldAt_byte _ _).trans (u8_toNat_of_le (by omega))
  let flags := [x.shedParked, x.surprise, x.identify, x.marks[0], x.marks[1], x.marks[2], s.inputs[b].pg, s.inputs[b].flt]
  have hflags : (u8 (bitsOf flags)).toNat = bitsOf flags := u8_bitsOf (by simp [flags])
  have hgranted : (flagByte x.lastGrant.isSome).toNat = if x.lastGrant = none then 0 else 1 := by
    cases x.lastGrant <;> rfl
  have hbytes : s.bayRecordBytes b =
      u8 b.val :: u8 x.state.code :: u8 x.cls.val :: (u16 x.charge12 ++ (u16 x.charge5 ++ (u16 x.steady12 ++
        u8 x.retryCount :: u8 (bitsOf flags) :: flagByte x.lastGrant.isSome ::
          (u32 (x.lastGrant.getD (Config.absentGrantTime s.freeCount b.val).toNat) ++
            (u32 ((x.rampDeadline.map (· - s.tb.now)).getD 0xFFFFFFFF) ++
              u32 (((x.pgDeadline.or (x.backoffDeadline.or x.drainDeadline)).map (· - s.tb.now)).getD 0xFFFFFFFF)))))) := by
    rw [← remainingBytes_eq, ← remainingBytes_eq]
    simp only [State.bayRecordBytes, List.append_assoc, List.cons_append, List.nil_append]
    rfl
  rw [hzero]
  simp only [hat, hbytes, hfirst, hcount, fieldAt_skip_byte, fieldAt_skip_u16, fieldAt_skip_u32, fieldAt_byte, fieldAt_u16, fieldAt_u32,
    fieldAt_last_u32, u8_fin (n := 24) (by decide), u8_fin (n := 8) (by decide), u8_toNat_of_le hcode, hflags, u8_toNat x.retryCount, hgranted, sent_32,
    Nat.reduceAdd, Nat.reduceLeDiff, Nat.le_refl, Nat.reducePow, true_and]
  refine ⟨fun k => bitsOf_testBit flags k.isLt, fun g hg => by rw [hg]; rfl, fun hsound d hd hsome => ?_, fun hpg hbackoff hdrain => ?_⟩
  · rw [second_deadline hsound hd hsome]
  · rw [hpg, hbackoff, hdrain]
    rfl

/-! #### The SUMMARY record (R175) -/

/-- The 12 bytes of the SUMMARY record before the branch sums. -/
def State.summaryHead (s : State) : List Byte :=
  u8 s.liu.link.code :: flagByte (decide (s.liu.link = .fault) && s.liu.lostLatch) :: positionByte s.liu.position ::
    (u16 s.liu.errorCount ++ u8 s.liu.port.code :: (u16 s.mru.attention.toNat ++ (u16 s.psq.committed12 ++ u16 s.psq.committed5)))

/-- The 12 bytes of the SUMMARY record behind the zones. -/
def State.summaryTail (s : State) : List Byte :=
  u16 (bitsOf s.cmp.defaulted.toList) ++ (u16 (bitsOf s.cmp.clamped.toList) ++ flagByte s.mru.saveInProgress :: u32 s.uptime)

theorem summaryRecord_eq (s : State) :
    s.summaryRecord = s.summaryHead ++ ((List.finRange 6).flatMap (fun g => u16 s.psq.branch[g]) ++
      u8 s.psq.rampingCount :: flagByte s.psq.quiescePending :: u8 s.psq.queue.length :: (s.psq.queue.map (fun e => u8 e.bay.val) ++
        ((List.finRange 3).map (fun z => u8 (bitsOf [s.zones[z].hold, s.zones[z].shed])) ++ s.summaryTail))) := by
  simp only [State.summaryRecord, State.summaryHead, State.summaryTail, List.append_assoc, List.cons_append, List.nil_append]

theorem branches_length (s : State) : ((List.finRange 6).flatMap fun g => u16 s.psq.branch[g]).length = 12 :=
  flatMap_length _ _ 2 fun _ _ => rfl

theorem summaryRecord_length (s : State) : s.summaryRecord.length = 39 + s.psq.queue.length := by
  simp only [summaryRecord_eq, State.summaryHead, State.summaryTail, List.length_append, List.length_cons, List.length_map, List.length_finRange,
    branches_length, show ∀ n, (u16 n).length = 2 from fun _ => rfl,
    show ∀ n, (u32 n).length = 4 from fun _ => rfl]
  omega

theorem fieldAt_summaryHead (s : State) {off len : Nat} (hfit : off + len ≤ 12) :
    fieldAt s.summaryRecord off len = fieldAt s.summaryHead off len := by
  rw [summaryRecord_eq, fieldAt_within _ hfit]

theorem fieldAt_summaryBehindBranches (s : State) (off len : Nat) :
    fieldAt s.summaryRecord (24 + off) len = fieldAt
      (u8 s.psq.rampingCount :: flagByte s.psq.quiescePending :: u8 s.psq.queue.length :: (s.psq.queue.map (fun e => u8 e.bay.val) ++
        ((List.finRange 3).map (fun z => u8 (bitsOf [s.zones[z].hold, s.zones[z].shed])) ++ s.summaryTail))) off len := by
  rw [summaryRecord_eq, show 24 + off = s.summaryHead.length + (((List.finRange 6).flatMap fun g => u16 s.psq.branch[g]).length + off) by
    rw [branches_length]; exact Nat.add_assoc 12 12 off, fieldAt_skip, fieldAt_skip]

theorem fieldAt_summaryZones (s : State) (off len : Nat) :
    fieldAt s.summaryRecord (27 + s.psq.queue.length + off) len =
      fieldAt ((List.finRange 3).map (fun z => u8 (bitsOf [s.zones[z].hold, s.zones[z].shed])) ++ s.summaryTail) off len := by
  rw [show 27 + s.psq.queue.length + off = 24 + ((s.psq.queue.map fun e => u8 e.bay.val).length + off + 1 + 1 + 1) by
    rw [List.length_map]; omega, fieldAt_summaryBehindBranches, fieldAt_skip_byte, fieldAt_skip_byte, fieldAt_skip_byte, fieldAt_skip]

theorem fieldAt_summaryTail (s : State) (off len : Nat) :
    fieldAt s.summaryRecord (30 + s.psq.queue.length + off) len = fieldAt s.summaryTail off len := by
  rw [show 30 + s.psq.queue.length + off = 27 + s.psq.queue.length + (3 + off) by omega, fieldAt_summaryZones]
  exact fieldAt_skip _ _ _ _

theorem attention_mod (a : BitVec 15) : a.toNat % 65536 = a.toNat := Nat.mod_eq_of_lt (by have := a.isLt; omega)

/-- The 11 flags of a table set as a two-byte field. -/
theorem fieldAt_tableFlags (v : Vector Bool 11) (rest : List Byte) (i : Fin 11) :
    (fieldAt (u16 (bitsOf v.toList) ++ rest) 0 2).testBit i.val = v[i] := by
  have hlen : v.toList.length = 11 := Vector.length_toList
  have hmod : bitsOf v.toList % 65536 = _ := bitsOf_mod (n := 16) (by omega)
  rw [fieldAt_u16, hmod, bitsOf_testBit _ (by rw [hlen]; exact i.isLt), Vector.getElem_toList]
  rfl

/-- The fields of the SUMMARY record. -/
theorem summaryRecord_fields (s : State) :
    let r := s.summaryRecord
    let q := s.psq.queue.length
    fieldAt r 0 1 = s.liu.link.code ∧ fieldAt r 1 1 = (if s.liu.link = .fault ∧ s.liu.lostLatch = true then 1 else 0) ∧
    fieldAt r 2 1 = sent 8 255 (s.liu.position.map (·.val)) ∧ fieldAt r 3 2 = s.liu.errorCount % 65536 ∧ fieldAt r 5 1 = s.liu.port.code ∧
    fieldAt r 6 2 = s.mru.attention.toNat ∧ fieldAt r 8 2 = s.psq.committed12 % 65536 ∧ fieldAt r 10 2 = s.psq.committed5 % 65536 ∧
    (∀ g : GroupId, fieldAt r (12 + 2 * g.val) 2 = s.psq.branch[g] % 65536) ∧ fieldAt r 24 1 = s.psq.rampingCount % 256 ∧
    fieldAt r 25 1 = (if s.psq.quiescePending then 1 else 0) ∧ fieldAt r 26 1 = q % 256 ∧
    (∀ (i : Nat) (h : i < q), fieldAt r (27 + i) 1 = (s.psq.queue[i]).bay.val) ∧
    (∀ z : ZoneId, fieldAt r (27 + q + z.val) 1 = (if s.zones[z].hold then 1 else 0) + if s.zones[z].shed then 2 else 0) ∧
    (∀ i : Fin 11, (fieldAt r (30 + q) 2).testBit i.val = s.cmp.defaulted[i] ∧ (fieldAt r (32 + q) 2).testBit i.val = s.cmp.clamped[i]) ∧
    fieldAt r (34 + q) 1 = (if s.mru.saveInProgress then 1 else 0) ∧ fieldAt r (35 + q) 4 = s.uptime := by
  intro r q
  have hhead {off len : Nat} (hfit : off + len ≤ 12) : fieldAt r off len = fieldAt s.summaryHead off len := fieldAt_summaryHead s hfit
  have hlink : s.liu.link.code ≤ 255 := by cases s.liu.link <;> decide
  have hport : s.liu.port.code ≤ 255 := by cases s.liu.port <;> decide
  have htail (off len : Nat) : fieldAt r (30 + off + q) len = fieldAt s.summaryTail off len := by
    rw [Nat.add_right_comm]
    exact fieldAt_summaryTail s off len
  refine ⟨?_, ?_, ?_, ?_, ?_, ?_, ?_, ?_, fun g => ?_, ?_, ?_, ?_, fun i hi => ?_, fun z => ?_, fun i => ⟨?_, ?_⟩, ?_, ?_⟩
  · rw [hhead (by decide), State.summaryHead, fieldAt_byte, u8_toNat_of_le hlink]
  · simp only [hhead, State.summaryHead, fieldAt_skip_byte, fieldAt_byte, flagByte_toNat, Bool.and_eq_true, decide_eq_true_eq, Nat.reduceAdd,
      Nat.reduceLeDiff]
  · simp only [hhead, State.summaryHead, fieldAt_skip_byte, fieldAt_byte, positionByte_toNat, Nat.reduceAdd, Nat.reduceLeDiff]
  · simp only [hhead, State.summaryHead, fieldAt_skip_byte, fieldAt_u16, Nat.reduceAdd, Nat.reduceLeDiff]
  · simp only [hhead, State.summaryHead, fieldAt_skip_byte, fieldAt_skip_u16, fieldAt_byte, u8_toNat_of_le hport, Nat.reduceAdd, Nat.reduceLeDiff]
  · simp only [hhead, State.summaryHead, fieldAt_skip_byte, fieldAt_skip_u16, fieldAt_u16, attention_mod, Nat.reduceAdd, Nat.reduceLeDiff]
  · simp only [hhead, State.summaryHead, fieldAt_skip_byte, fieldAt_skip_u16, fieldAt_u16, Nat.reduceAdd, Nat.reduceLeDiff]
  · simp only [hhead, State.summaryHead, fieldAt_skip_byte, fieldAt_skip_u16, fieldAt_last_u16, Nat.reduceAdd, Nat.le_refl]
  · have hbranch : fieldAt r (12 + 2 * g.val) 2 = _ :=
      (congrArg (fieldAt · _ 2) (summaryRecord_eq s)).trans (fieldAt_skip s.summaryHead _ (2 * g.val + 0) 2)
    rw [hbranch, fieldAt_flatMap_finRange (k := 2) (fun _ => rfl) g (Nat.le_refl 2), fieldAt_last_u16]
  · exact (fieldAt_summaryBehindBranches s 0 1).trans ((fieldAt_byte _ _).trans (u8_toNat _))
  · exact (fieldAt_summaryBehindBranches s 1 1).trans ((fieldAt_byte _ _).trans (flagByte_toNat _))
  · exact (fieldAt_summaryBehindBranches s 2 1).trans ((fieldAt_byte _ _).trans (u8_toNat _))
  · rw [show 27 + i = 24 + (i + 1 + 1 + 1) by omega, fieldAt_summaryBehindBranches, fieldAt_skip_byte, fieldAt_skip_byte, fieldAt_skip_byte,
      fieldAt_map _ _ hi, u8_fin (by decide)]
  · rw [fieldAt_summaryZones, fieldAt_map _ _ (by rw [List.length_finRange]; exact z.isLt), List.getElem_finRange, u8_bitsOf (by simp), bitsOf_two]
    rfl
  · exact (congrArg (Nat.testBit · i.val) (htail 0 2)).trans (fieldAt_tableFlags _ _ i)
  · exact (congrArg (Nat.testBit · i.val) (htail 2 2)).trans (fieldAt_tableFlags _ _ i)
  · exact (htail 4 1).trans ((fieldAt_byte _ _).trans (flagByte_toNat _))
  · exact (htail 5 4).trans ((fieldAt_last_u32 _).trans (uptimeAt_mod s s.now))

/-! #### The reads are served (R168, R174) -/

theorem hand_eq_serve_of_reads {s : State} (hs : ServesReads s) (tag : Byte) {kind : RequestKind} (hk : kind.reads = true) (r : Request) :
    s.hand tag kind r = s.serve tag r :=
  s.hand_of_serves tag kind r hs.1 hs.2 (.inr hk)

theorem uptimeAt_eq (s : State) (t : Nat) :
    s.uptimeAt t = match s.tb.startTime with | some start => (t - start) / 1000 % 2 ^ 32 | none => 0 := by
  rw [State.uptimeAt]
  cases s.tb.startTime with
  | none => rw [Option.getD_none, Nat.sub_self]
  | some start => rfl

theorem exec_statusReadBays {s : State} (hs : ServesReads s) (tag first count : Byte) :
    exec (.statusReadBays tag first count) s = .next (s.serve tag (statusReadBaysRequest first count)) :=
  congrArg Host.Outcome.next (hand_eq_serve_of_reads hs tag rfl _)

/-- Settles O48, record by record: a record's bytes are cut into its parts, and a field lies in one of them. -/
theorem statusReadsReplyWithRecords : Obligations.StatusReadsReplyWithRecords := by
  unfold Obligations.StatusReadsReplyWithRecords
  intro tag first count s hs
  have hserve (sel : Selector) : Host.Outcome.next (s.hand tag .statusRead (.statusRead sel)) = (.next (s.serve tag (.statusRead sel)) : Host.Outcome State Fault Refusal) :=
    congrArg Host.Outcome.next (hand_eq_serve_of_reads hs tag rfl _)
  refine ⟨hserve .summary, hserve .sources, hserve .fans, hserve .zones, hserve .lines, fun h1 h24 h9 => ⟨?_, baysRecord_length s h24⟩, fun hbad => ?_,
    summaryRecord_length s, sourcesRecord_length s, fansRecord_length s, zonesRecord_length s, linesRecord_length s, summaryRecord_fields s,
    fun i _ h24 hi b hb => baysRecord_bay s h24 hi hb, sourcesRecord_sensor s, sourcesRecord_drive s, fansRecord_fan s, zonesRecord_zone s,
    linesRecord_bay s, rfl, uptimeAt_eq s, rfl, rfl, rfl, rfl, rfl, rfl⟩
  · rw [exec_statusReadBays hs, statusReadBaysRequest, if_pos ⟨h1, h24, h9⟩]
    rfl
  · rw [exec_statusReadBays hs, statusReadBaysRequest, if_neg (by omega)]
    rfl

end Sys2Proof.Machine

/-! ### Table reads and writes (R169, R170, section 9.2) -/

namespace Sys2Proof.Machine

open Safety

/-! #### The table and the range of a request (steps 1 and 2 of R170) -/

theorem TableId.ofByte_eq_some {table : Byte} {id : TableId} (h : table.toNat = id.code) : TableId.ofByte table = some id := by
  rw [← TableId.ofByte_code id, ← h, u8, BitVec.ofNat_toNat]
  rfl

theorem TableId.ofByte_eq_none {table : Byte} (h : 11 ≤ table.toNat) : TableId.ofByte table = none := by
  rw [TableId.ofByte, List.find?_eq_none]
  intro id _ hc
  have hcode : id.code < 11 := by cases id <;> decide
  have := eq_of_beq hc
  omega

theorem rangeOk_iff (id : TableId) (first count : Byte) :
    rangeOk id first.toNat count.toNat = true ↔ ¬ (count = 0 ∨ id.entries < first.toNat + count.toNat) := by
  have hzero : count = 0 ↔ count.toNat = 0 := by
    rw [← BitVec.toNat_inj]
    rfl
  rw [rangeOk, decide_eq_true_eq, hzero]
  omega

theorem u8_toNat_self (b : Byte) : u8 b.toNat = b := BitVec.ofNat_toNat 8 b

theorem u8_code {table : Byte} {id : TableId} (h : table.toNat = id.code) : u8 id.code = table := by
  rw [← h, u8_toNat_self]

theorem exec_tableRead {s : State} (hs : ServesReads s) (tag table first count : Byte) :
    exec (.tableRead tag table first count) s = .next (s.serve tag (tableReadRequest table first count)) :=
  congrArg Host.Outcome.next (hand_eq_serve_of_reads hs tag rfl _)

theorem exec_tableWrite {s : State} (hs : Serves s) (tag table first count : Byte) (entries : List Byte) :
    exec (.tableWrite tag table first count entries) s = .next (s.serve tag (tableWriteRequest table first count entries)) :=
  congrArg Host.Outcome.next (hand_eq_serve hs tag _ _)

theorem tableReadRequest_of_range {table first count : Byte} {id : TableId} (hid : table.toNat = id.code) :
    tableReadRequest table first count =
      if rangeOk id first.toNat count.toNat then .tableRead id first.toNat count.toNat else .invalid .badRange := by
  simp only [tableReadRequest, TableId.ofByte_eq_some hid]

theorem tableWriteRequest_of_range {table first count : Byte} {entries : List Byte} {id : TableId} (hid : table.toNat = id.code) :
    tableWriteRequest table first count entries =
      if rangeOk id first.toNat count.toNat then .tableWrite id first.toNat count.toNat entries else .invalid .badRange := by
  simp only [tableWriteRequest, TableId.ofByte_eq_some hid]

theorem tableRequest_noTable {table : Byte} (h : 11 ≤ table.toNat) (first count : Byte) (entries : List Byte) :
    tableReadRequest table first count = .invalid .noTable ∧ tableWriteRequest table first count entries = .invalid .noTable := by
  simp only [tableReadRequest, tableWriteRequest, TableId.ofByte_eq_none h, and_self]

/-! #### The answers of a TABLE READ and a TABLE WRITE (R169, R170) -/

theorem serve_tableRead (s : State) (tag : Byte) {table : Byte} (first count : Byte) {id : TableId} (hid : table.toNat = id.code) :
    s.serve tag (.tableRead id first.toNat count.toNat) =
      if (s.tables.readEntries id first.toNat count.toNat).length ≤ 237 then
        s.reply tag .done ([table, first, count] ++ s.tables.readEntries id first.toNat count.toNat)
      else s.reply tag .badRange [] := by
  simp only [State.serve, State.readTable, u8_code hid, u8_toNat_self]
  by_cases hfit : (s.tables.readEntries id first.toNat count.toNat).length ≤ 237
  · rw [if_pos hfit, if_pos (by omega)]
  · rw [if_neg hfit, if_neg (by omega)]

theorem writeTable_badLength {s : State} {id : TableId} {first count : Nat} {bytes : List Byte}
    (h : ∀ raws, splitEntries id count bytes ≠ some (raws, [])) : s.writeTable id first count bytes = (s, .badValue, []) := by
  unfold State.writeTable
  split
  · next raws he => exact absurd he (h raws)
  · rfl

theorem writeTable_badEntry {s : State} {id : TableId} {first count i : Nat} {bytes : List Byte} {raws : List (List Byte)}
    (hraws : splitEntries id count bytes = some (raws, [])) (hbad : s.tables.checkWrite id first raws = .bad i) :
    s.writeTable id first count bytes = (s, .badValue, [u8 id.code, u8 i]) := by
  simp only [State.writeTable, hraws, hbad]

theorem writeTable_overLimit {s : State} {id : TableId} {first count : Nat} {bytes : List Byte} {raws : List (List Byte)} {t : Tables}
    (hraws : splitEntries id count bytes = some (raws, [])) (hok : s.tables.checkWrite id first raws = .ok t) (hid : id = .limits)
    (hover : BudgetBelow t.limits s.psq) : s.writeTable id first count bytes = (s, .overLimit, [u8 id.code, 0]) := by
  simp only [State.writeTable, hraws, hok]
  exact if_pos (by rw [Bool.and_eq_true, decide_eq_true_eq]; exact ⟨hid, (Limits.overCommitted_iff _ _).mpr hover⟩)

theorem writeTable_done {s : State} {id : TableId} {first count : Nat} {bytes : List Byte} {raws : List (List Byte)} {t : Tables}
    (hraws : splitEntries id count bytes = some (raws, [])) (hok : s.tables.checkWrite id first raws = .ok t)
    (hfits : id ≠ .limits ∨ ¬ BudgetBelow t.limits s.psq) :
    s.writeTable id first count bytes = (State.takeUp { s with tables := t } id first count s.tables, .done, []) := by
  simp only [State.writeTable, hraws, hok]
  refine if_neg fun h => ?_
  rw [Bool.and_eq_true, decide_eq_true_eq] at h
  exact hfits.elim (fun hne => hne h.1) fun hnot => hnot ((Limits.overCommitted_iff _ _).mp h.2)

theorem serve_tableWrite {s u : State} {id : TableId} {first count : Nat} {bytes payload : List Byte} {status : Status} (tag : Byte)
    (h : s.writeTable id first count bytes = (u, status, payload)) : s.serve tag (.tableWrite id first count bytes) = u.reply tag status payload := by
  simp only [State.serve, h]

theorem not_budgetBelow_iff (l : Limits) (p : Psq) :
    ¬ BudgetBelow l p ↔ p.committed12 ≤ l.rail12 ∧ p.committed5 ≤ l.rail5 ∧ ∀ g : GroupId, p.branch[g] ≤ l.branch[g] := by
  simp only [BudgetBelow, not_or, not_exists, not_lt]

/-! #### The index answered (steps 4 and 5 of R170, log 25) -/

theorem Tables.putEntries_append {id : TableId} (pre rest : List (List Byte)) {t u : Tables} {i : Nat} (h : t.putEntries id i pre = .ok u) :
    t.putEntries id i (pre ++ rest) = u.putEntries id (i + pre.length) rest := by
  induction pre generalizing t i with
  | nil =>
    rw [Checked.ok.inj h]
    rfl
  | cons raw pre ih =>
    rw [List.cons_append]
    rw [Tables.putEntries] at h ⊢
    cases hput : t.putEntry id i raw with
    | none =>
      rw [hput] at h
      exact Checked.noConfusion h
    | some w =>
      rw [hput] at h
      dsimp only at h ⊢
      rw [ih h, List.length_cons, Nat.add_assoc, Nat.add_comm 1]

theorem Tables.checkWrite_badField {id : TableId} {pre post : List (List Byte)} {raw : List Byte} {t u : Tables} {first : Nat}
    (h : t.putEntries id first pre = .ok u) (hbad : u.putEntry id (first + pre.length) raw = none) :
    t.checkWrite id first (pre ++ raw :: post) = .bad (first + pre.length) := by
  have hput : t.putEntries id first (pre ++ raw :: post) = .bad (first + pre.length) := by
    rw [Tables.putEntries_append pre _ h, Tables.putEntries, hbad]
  rw [Tables.checkWrite, hput]

theorem Tables.checkWrite_constraints {id : TableId} {raws : List (List Byte)} {t u : Tables} {first : Nat} (h : t.putEntries id first raws = .ok u)
    (hall : ∀ i, first ≤ i → i < first + raws.length → u.constraintFailure id i = none) : t.checkWrite id first raws = .ok u := by
  have hnone : (List.range' first raws.length).findSome? (u.constraintFailure id) = none :=
    List.findSome?_eq_none_iff.2 fun i hi => hall i (List.mem_range'_1.1 hi).1 (List.mem_range'_1.1 hi).2
  simp only [Tables.checkWrite, h, hnone]

/-- The first named entry against its constraint gives the index answered. -/
theorem Tables.checkWrite_constraint {id : TableId} {raws : List (List Byte)} {t u : Tables} {first i k : Nat}
    (h : t.putEntries id first raws = .ok u) (hlo : first ≤ i) (hhi : i < first + raws.length) (hfail : u.constraintFailure id i = some k)
    (hbefore : ∀ j, first ≤ j → j < i → u.constraintFailure id j = none) : t.checkWrite id first raws = .bad k := by
  have hcut : List.range' first raws.length = List.range' first (i - first) ++ i :: List.range' (i + 1) (first + raws.length - (i + 1)) := by
    have hcons := List.range'_succ (s := i) (n := first + raws.length - (i + 1)) (step := 1)
    have happ := List.range'_append (s := first) (m := i - first) (n := first + raws.length - (i + 1) + 1) (step := 1)
    rw [Nat.one_mul, show first + (i - first) = i by omega, show i - first + (first + raws.length - (i + 1) + 1) = raws.length by omega, hcons] at happ
    exact happ.symm
  have hsome : (List.range' first raws.length).findSome? (u.constraintFailure id) = some k :=
    List.findSome?_eq_some_iff.2 ⟨_, i, _, hcut, hfail, fun j hj => hbefore j (List.mem_range'_1.1 hj).1 (by have := (List.mem_range'_1.1 hj).2; omega)⟩
  simp only [Tables.checkWrite, h, hsome]

/-- Two bays of the bay map name one slot. -/
def SlotClash (u : Tables) (a b : BayId) : Prop := a ≠ b ∧ u.bayMap[a] ≠ none ∧ u.bayMap[b] = u.bayMap[a]

/-- A curve whose points or thresholds are out of their order. -/
def Unordered (c : Curve) : Prop :=
  (∃ front p q back, c.points = front ++ p :: q :: back ∧ (q.temp ≤ p.temp ∨ q.duty < p.duty)) ∨
  ∃ x, c.shed = some x ∧ ∀ h, c.hold = some h → x ≤ h

/-- The entry i of the table is against its constraint (R27, R73, R76, R153). -/
def EntryFails (u : Tables) (id : TableId) (i : Nat) : Prop :=
  (id = .bayMap ∧ ∃ a b : BayId, a.val = i ∧ SlotClash u a b) ∨
  (id = .classes ∧ ∃ c : ClassId, c.val = i ∧ u.classes[c].inrush12 < u.classes[c].steady12) ∨
  (id = .curves ∧ ∃ k : CurveId, k.val = i ∧ Unordered u.curves[k]) ∨
  (id = .fans ∧ ∃ f : FanId, f.val = i ∧ u.fans[f].maxDuty < u.fans[f].minDuty)

theorem pointsOrdered_eq_false_iff (l : List CurvePoint) :
    pointsOrdered l = false ↔ ∃ front p q back, l = front ++ p :: q :: back ∧ (q.temp ≤ p.temp ∨ q.duty < p.duty) := by
  induction l with
  | nil => simp [pointsOrdered]
  | cons p l ih =>
    cases l with
    | nil =>
      refine iff_of_false (by simp [pointsOrdered]) ?_
      rintro ⟨front, x, y, back, hl, -⟩
      have := congrArg List.length hl
      simp only [List.length_cons, List.length_append, List.length_nil] at this
      omega
    | cons q rest =>
      rw [pointsOrdered, Bool.and_eq_false_iff, ih, decide_eq_false_iff_not]
      constructor
      · rintro (hpair | ⟨front, x, y, back, hl, hxy⟩)
        · exact ⟨[], p, q, rest, rfl, by omega⟩
        · exact ⟨p :: front, x, y, back, by rw [hl]; rfl, hxy⟩
      · rintro ⟨front, x, y, back, hl, hxy⟩
        cases front with
        | nil =>
          obtain ⟨hp, htail⟩ := List.cons.inj hl
          rw [hp, (List.cons.inj htail).1]
          exact .inl (by omega)
        | cons z front => exact .inr ⟨front, x, y, back, (List.cons.inj hl).2, hxy⟩

theorem thresholdsOrdered_eq_false_iff (hold shed : Option Int) :
    thresholdsOrdered hold shed = false ↔ ∃ x, shed = some x ∧ ∀ h, hold = some h → x ≤ h := by
  cases shed <;> cases hold <;> simp [thresholdsOrdered]

theorem Curve.constraint_eq_false_iff (c : Curve) : c.constraint = false ↔ Unordered c := by
  rw [Curve.constraint, Bool.and_eq_false_iff, pointsOrdered_eq_false_iff, thresholdsOrdered_eq_false_iff]
  rfl

/-- A slot named twice: the bay found is the lowest other one with the slot. -/
theorem sharesSlot_eq_some {u : Tables} {a b : BayId} (h : SlotClash u a b) (hleast : ∀ b', SlotClash u a b' → b ≤ b') :
    sharesSlot u.bayMap a = some b := by
  have hfind : (List.finRange 24).find? (fun j => decide (j ≠ a) && decide (u.bayMap[j] = u.bayMap[a])) = some b := by
    refine (List.find?_ofFn_eq_some_of_injective (f := fun j : BayId => j) fun _ _ he => he).2 ⟨?_, fun j hj hp => ?_⟩
    · rw [Bool.and_eq_true, decide_eq_true_eq, decide_eq_true_eq]
      exact ⟨Ne.symm h.1, h.2.2⟩
    · rw [Bool.and_eq_true, decide_eq_true_eq, decide_eq_true_eq] at hp
      exact absurd (hleast j ⟨Ne.symm hp.1, h.2.1, hp.2⟩) (not_le_of_gt hj)
  rw [sharesSlot, if_neg, hfind]
  rw [Option.isNone_iff_eq_none]
  exact h.2.1

/-- The check of a constraint that is one of the entry alone. -/
theorem ownConstraint_eq_none {n i : Nat} {ok : Fin n → Bool} (h : ∀ c : Fin n, c.val = i → ok c = true) :
    (if hi : i < n then (if ok ⟨i, hi⟩ then none else some i) else none) = none := by
  by_cases hi : i < n
  · rw [dif_pos hi, if_pos (h ⟨i, hi⟩ rfl)]
  · rw [dif_neg hi]

theorem ownConstraint_eq_some {n : Nat} {ok : Fin n → Bool} (c : Fin n) (h : ok c = false) :
    (if hi : c.val < n then (if ok ⟨c.val, hi⟩ then none else some c.val) else none) = some c.val := by
  rw [dif_pos c.isLt, if_neg (by rw [h]; decide)]

theorem constraintFailure_eq_none {u : Tables} {id : TableId} {i : Nat} (h : ¬ EntryFails u id i) : u.constraintFailure id i = none := by
  cases id
  case bayMap =>
    by_cases hi : i < 24
    · have hno : sharesSlot u.bayMap ⟨i, hi⟩ = none :=
        (sharesSlot_eq_none_iff _ _).2 fun b hb hnamed hsame => h (.inl ⟨rfl, ⟨i, hi⟩, b, rfl, Ne.symm hb, hnamed, hsame⟩)
      rw [Tables.constraintFailure, dif_pos hi, hno, Option.map_none]
    · rw [Tables.constraintFailure, dif_neg hi]
  case classes =>
    refine ownConstraint_eq_none (ok := fun c => u.classes[c].constraint) fun c hc => decide_eq_true (not_lt.1 fun hlt => ?_)
    exact h (.inr (.inl ⟨rfl, c, hc, hlt⟩))
  case curves =>
    refine ownConstraint_eq_none (ok := fun c => u.curves[c].constraint) fun c hc => Bool.eq_true_of_not_eq_false fun hfalse => ?_
    exact h (.inr (.inr (.inl ⟨rfl, c, hc, (Curve.constraint_eq_false_iff _).1 hfalse⟩)))
  case fans =>
    refine ownConstraint_eq_none (ok := fun f => u.fans[f].constraint) fun f hf => decide_eq_true (not_lt.1 fun hlt => ?_)
    exact h (.inr (.inr (.inr ⟨rfl, f, hf, hlt⟩)))
  all_goals rfl

theorem constraintFailure_eq_some {u : Tables} {id : TableId} {i : Nat} (hid : id ≠ .bayMap) (h : EntryFails u id i) :
    u.constraintFailure id i = some i := by
  rcases h with ⟨rfl, -⟩ | ⟨rfl, c, rfl, hlt⟩ | ⟨rfl, c, rfl, hun⟩ | ⟨rfl, f, rfl, hlt⟩
  · exact absurd rfl hid
  · exact ownConstraint_eq_some (ok := fun c => u.classes[c].constraint) c (decide_eq_false (not_le.2 hlt))
  · exact ownConstraint_eq_some (ok := fun c => u.curves[c].constraint) c ((Curve.constraint_eq_false_iff _).2 hun)
  · exact ownConstraint_eq_some (ok := fun f => u.fans[f].constraint) f (decide_eq_false (not_le.2 hlt))

/-- A slot named twice fails at the higher of the two entries (log 25). -/
theorem constraintFailure_bayMap {u : Tables} {a b : BayId} (h : SlotClash u a b) (hleast : ∀ b', SlotClash u a b' → b ≤ b') :
    u.constraintFailure .bayMap a.val = some (max a.val b.val) := by
  rw [Tables.constraintFailure, dif_pos a.isLt, sharesSlot_eq_some h hleast]
  rfl

/-- The index that a TABLE WRITE is answered with, or that it passes. -/
theorem checkWrite_index (t u : Tables) (id : TableId) (first : Nat) (pre post raws : List (List Byte)) (raw : List Byte) :
    (t.putEntries id first pre = .ok u → u.putEntry id (first + pre.length) raw = none →
      t.checkWrite id first (pre ++ raw :: post) = .bad (first + pre.length)) ∧
    (t.putEntries id first raws = .ok u →
      ((∀ i, first ≤ i → i < first + raws.length → ¬ EntryFails u id i) → t.checkWrite id first raws = .ok u) ∧
      (∀ i, first ≤ i → i < first + raws.length → EntryFails u id i → (∀ j, first ≤ j → j < i → ¬ EntryFails u id j) →
        (id ≠ .bayMap → t.checkWrite id first raws = .bad i) ∧
        (∀ a b : BayId, id = .bayMap → a.val = i → SlotClash u a b → (∀ b' : BayId, SlotClash u a b' → b ≤ b') →
          t.checkWrite id first raws = .bad (max i b.val)))) := by
  refine ⟨Tables.checkWrite_badField, fun hput => ⟨fun hnone => ?_, fun i hlo hhi hfail hfirst => ⟨fun hid => ?_, ?_⟩⟩⟩
  · exact Tables.checkWrite_constraints hput fun i hlo hhi => constraintFailure_eq_none (hnone i hlo hhi)
  · exact Tables.checkWrite_constraint hput hlo hhi (constraintFailure_eq_some hid hfail) fun j hj hji => constraintFailure_eq_none (hfirst j hj hji)
  · rintro a b rfl rfl hclash hleast
    exact Tables.checkWrite_constraint hput hlo hhi (constraintFailure_bayMap hclash hleast) fun j hj hji =>
      constraintFailure_eq_none (hfirst j hj hji)

/-! #### What a write does at once (section 9.2) -/

theorem takeUp_bayMap (s : State) (first count : Nat) (old : Tables) :
    State.takeUp s .bayMap first count old =
      { s with
        smap := Vector.ofFn fun b =>
          if old.bayMap[b] ≠ none ∧ s.tables.bayMap[b] = none then { condition := 0, stretch := s.smap[b].stretch } else s.smap[b] } := by
  have hsmap : (Vector.ofFn fun b : BayId =>
        if (old.bayMap[b]).isSome ∧ (s.tables.bayMap[b]).isNone then { s.smap[b] with condition := 0 } else s.smap[b]) =
      Vector.ofFn fun b : BayId =>
        if old.bayMap[b] ≠ none ∧ s.tables.bayMap[b] = none then { condition := 0, stretch := s.smap[b].stretch } else s.smap[b] := by
    simp only [Option.isSome_iff_ne_none, Option.isNone_iff_eq_none]
  exact congrArg (fun v => { s with smap := v }) hsmap

theorem takeUp_patterns (s : State) (first count : Nat) (old : Tables) :
    State.takeUp s .patterns first count old =
      { s with
        len := { s.len with
          written := Vector.ofFn fun p => s.len.written[p] || decide (first ≤ p.val ∧ p.val < first + count) } } := by
  simp only [Bool.decide_and]
  rfl

/-- A fan at a changed PWM frequency (R77, R90, log 35). -/
theorem Fan.onWrite_changed {f : Fan} {old new : Nat} (h : old ≠ new) (now : Nat) :
    (f.duty = 0 → f.onWrite old new now = { f with divisor := 250000 / new, compare := 0 }) ∧
    (f.duty ≠ 0 → f.onWrite old new now =
      { f with
        divisor := 250000 / new, compare := f.duty * (250000 / new) / 1000, state := .starting, grace := some now, lowCount := 0
        goodCount := 0, skipWindow := false }) := by
  unfold Fan.onWrite
  rw [if_neg h]
  refine ⟨fun hd => ?_, fun hd => if_neg hd⟩
  have hcompare : pwmCompare f.duty (pwmDivisor new) = 0 := by rw [hd, pwmCompare, Nat.zero_mul, Nat.zero_div]
  dsimp only
  rw [if_pos hd, Fan.loadPwm, hcompare]
  rfl

theorem takeUp_fans (s : State) (first count : Nat) (old : Tables) :
    ∃ fans : Vector Fan 6, State.takeUp s .fans first count old = { s with fans := fans } ∧
      ∀ f : FanId,
        let n := 250000 / s.tables.fans[f].pwmFrequency
        (old.fans[f].pwmFrequency = s.tables.fans[f].pwmFrequency → fans[f] = s.fans[f]) ∧
        (old.fans[f].pwmFrequency ≠ s.tables.fans[f].pwmFrequency →
          (s.fans[f].duty = 0 → fans[f] = { s.fans[f] with divisor := n, compare := 0 }) ∧
          (s.fans[f].duty ≠ 0 → fans[f] =
            { s.fans[f] with
              divisor := n, compare := s.fans[f].duty * n / 1000, state := .starting, grace := some s.tb.now, lowCount := 0
              goodCount := 0, skipWindow := false })) := by
  refine ⟨_, rfl, fun f => ?_⟩
  rw [get_ofFn]
  exact ⟨fun he => if_pos he, fun hne => Fan.onWrite_changed hne s.tb.now⟩

/-- A bay that a bay settings write moves out of HOLD (R106). -/
theorem State.movedOut_iff (s : State) (old : Vector BaySetting 24) (b : BayId) :
    s.movedOut old b = true ↔ s.bays[b].state = .parked ∧ s.bays[b].shedParked = true ∧ old[b].zone ≠ s.tables.baySettings[b].zone ∧
      s.zones[s.tables.baySettings[b].zone].hold = false := by
  rw [State.movedOut, Bool.and_eq_true, Bool.and_eq_true, Bool.and_eq_true, decide_eq_true_eq, decide_eq_true_eq, Bool.not_eq_true',
    and_assoc, and_assoc]
  rfl

/-- What several joining bays change: their records and the queue. -/
theorem State.enterQueuedAll_parts {s u : State} {p : BayId → Bool} (h : s.enterQueuedAll p = u) :
    u = { s with bays := u.bays, psq := { s.psq with queue := u.psq.queue } } ∧
    u.psq.queue = joinedQueue s (fun b => p b = true) s.psq.queue ∧
    ∀ b : BayId, u.bays[b] = if p b = true then s.queuedRecord b else s.bays[b] := by
  rw [State.enterQueuedAll_eq] at h
  subst h
  exact ⟨rfl, rfl, fun b => get_ofFn _ _⟩

/-- The part whose bays off power have taken the classes of their settings (R6, log 33). -/
def State.classesAdopted (s : State) : State := { s with bays := Vector.ofFn fun b => (s.bays[b]).adoptClass (s.setting b).cls }

theorem classesAdopted_tables (s : State) : s.classesAdopted.tables = s.tables := by rw [State.classesAdopted]

theorem classesAdopted_zones (s : State) : s.classesAdopted.zones = s.zones := by rw [State.classesAdopted]

theorem classesAdopted_bay (s : State) (b : BayId) : s.classesAdopted.bays[b] = (s.bays[b]).adoptClass s.tables.baySettings[b].cls := by
  rw [State.classesAdopted, get_ofFn, State.setting]

theorem takeUp_baySettings_stages (s : State) (first count : Nat) (old : Tables) :
    State.takeUp s .baySettings first count old =
      (State.shedOwed (State.shedOwed (State.shedOwed
        (s.classesAdopted.enterQueuedAll (s.classesAdopted.movedOut old.baySettings)) 0) 1) 2).consider := by
  rw [State.takeUp]
  simp only [State.classesAdopted, show List.finRange 3 = [0, 1, 2] from rfl, List.foldl_cons, List.foldl_nil]

theorem takeUp_baySettings (s : State) (first count : Nat) (old : Tables) :
    ∃ u : State, State.takeUp s .baySettings first count old =
        (State.shedOwed (State.shedOwed (State.shedOwed u 0) 1) 2).consider ∧
      u = { s with bays := u.bays, psq := { s.psq with queue := u.psq.queue } } ∧
      (let moved (b : BayId) : Prop :=
        s.bays[b].state = .parked ∧ s.bays[b].shedParked = true ∧ old.baySettings[b].zone ≠ s.tables.baySettings[b].zone ∧
          s.zones[s.tables.baySettings[b].zone].hold = false
       u.psq.queue = joinedQueue s moved s.psq.queue ∧
       ∀ b : BayId,
        (moved b → u.bays[b] =
          { s.bays[b] with
            state := .queued, cls := s.tables.baySettings[b].cls, shedParked := false, backoffDeadline := none
            drainDeadline := none }) ∧
        (¬ moved b → s.bays[b].state.live = true → u.bays[b] = s.bays[b]) ∧
        (¬ moved b → s.bays[b].state.live = false → u.bays[b] = { s.bays[b] with cls := s.tables.baySettings[b].cls })) := by
  have hbay := classesAdopted_bay s
  have hmoved (b : BayId) : s.classesAdopted.movedOut old.baySettings b = true ↔
      s.bays[b].state = .parked ∧ s.bays[b].shedParked = true ∧ old.baySettings[b].zone ≠ s.tables.baySettings[b].zone ∧
        s.zones[s.tables.baySettings[b].zone].hold = false := by
    have hstate : s.classesAdopted.bays[b].state = s.bays[b].state := by rw [hbay, BayRecord.adoptClass_frame]
    have hshed : s.classesAdopted.bays[b].shedParked = s.bays[b].shedParked := by rw [hbay, BayRecord.adoptClass_frame]
    simp only [State.movedOut_iff, hstate, hshed, classesAdopted_tables, classesAdopted_zones]
  have hstages := takeUp_baySettings_stages s first count old
  generalize hu : s.classesAdopted.enterQueuedAll (s.classesAdopted.movedOut old.baySettings) = u at hstages
  obtain ⟨hframe, hqueue, hrecord⟩ := State.enterQueuedAll_parts hu
  refine ⟨u, hstages, ?_, ?_, fun b => ⟨fun hm => ?_, fun hm hlive => ?_, fun hm hlive => ?_⟩⟩
  · rw [hframe, State.classesAdopted]
  · rw [hqueue, joinedQueue_congr (classesAdopted_tables s) hmoved, State.classesAdopted]
  · rw [hrecord, if_pos ((hmoved b).2 hm), State.queuedRecord, hbay, BayRecord.adoptClass_frame, classesAdopted_tables]
  · rw [hrecord, if_neg (mt (hmoved b).1 hm), hbay, BayRecord.adoptClass_of_live hlive]
  · rw [hrecord, if_neg (mt (hmoved b).1 hm), hbay, BayRecord.adoptClass_of_not_live hlive]

theorem State.shedOwed_of_candidate (s : State) (z : ZoneId) :
    (s.psq.shed[z] ≠ .owed ∨ s.shedCandidate z = none → s.shedOwed z = s) ∧
    (∀ b : BayId, s.psq.shed[z] = .owed → s.shedCandidate z = some b → s.shedOwed z = Shed s z b) := by
  refine ⟨fun h => ?_, fun b howed hb => ?_⟩
  · by_cases howed : s.psq.shed[z] = .owed
    · simp only [State.shedOwed, h.resolve_left (not_not.2 howed), ite_self]
    · exact if_neg howed
  · rw [← State.shedBay_eq (State.live_of_shedCandidate hb)]
    simp only [State.shedOwed, if_pos howed, hb]

/-! #### The requests -/

theorem tableRead_answers {s : State} (hs : ServesReads s) (tag table first count : Byte) :
    (11 ≤ table.toNat → exec (.tableRead tag table first count) s = .next (s.reply tag .noTable [])) ∧
    (∀ id : TableId, table.toNat = id.code →
      (count = 0 ∨ id.entries < first.toNat + count.toNat →
        exec (.tableRead tag table first count) s = .next (s.reply tag .badRange [])) ∧
      (count ≠ 0 → first.toNat + count.toNat ≤ id.entries →
        let bytes := s.tables.readEntries id first.toNat count.toNat
        exec (.tableRead tag table first count) s = .next
          (if bytes.length ≤ 237 then s.reply tag .done ([table, first, count] ++ bytes) else s.reply tag .badRange []))) := by
  rw [exec_tableRead hs]
  refine ⟨fun h => ?_, fun id hid => ⟨fun hbad => ?_, fun hne hle => ?_⟩⟩
  · rw [(tableRequest_noTable h first count []).1]
    rfl
  · rw [tableReadRequest_of_range hid, if_neg fun hok => (rangeOk_iff id first count).1 hok hbad]
    rfl
  · rw [tableReadRequest_of_range hid, if_pos ((rangeOk_iff id first count).2 (not_or.2 ⟨hne, not_lt.2 hle⟩)),
      serve_tableRead s tag first count hid]

theorem tableWrite_answers {s : State} (hs : Serves s) (tag table first count : Byte) (entries : List Byte) :
    (11 ≤ table.toNat → exec (.tableWrite tag table first count entries) s = .next (s.reply tag .noTable [])) ∧
    (∀ id : TableId, table.toNat = id.code →
      (count = 0 ∨ id.entries < first.toNat + count.toNat →
        exec (.tableWrite tag table first count entries) s = .next (s.reply tag .badRange [])) ∧
      (count ≠ 0 → first.toNat + count.toNat ≤ id.entries →
        ((∀ raws, splitEntries id count.toNat entries ≠ some (raws, [])) →
          exec (.tableWrite tag table first count entries) s = .next (s.reply tag .badValue [])) ∧
        (∀ raws, splitEntries id count.toNat entries = some (raws, []) →
          (∀ i, s.tables.checkWrite id first.toNat raws = .bad i →
            exec (.tableWrite tag table first count entries) s = .next (s.reply tag .badValue [table, u8 i])) ∧
          (∀ t, s.tables.checkWrite id first.toNat raws = .ok t →
            (id = .limits → BudgetBelow t.limits s.psq →
              exec (.tableWrite tag table first count entries) s = .next (s.reply tag .overLimit [table, 0])) ∧
            (id ≠ .limits ∨
                (s.psq.committed12 ≤ t.limits.rail12 ∧ s.psq.committed5 ≤ t.limits.rail5 ∧
                  ∀ g : GroupId, s.psq.branch[g] ≤ t.limits.branch[g]) →
              exec (.tableWrite tag table first count entries) s = .next
                ((State.takeUp { s with tables := t } id first.toNat count.toNat s.tables).reply tag .done [])))))) := by
  rw [exec_tableWrite hs]
  refine ⟨fun h => ?_, fun id hid => ⟨fun hbad => ?_, fun hne hle => ?_⟩⟩
  · rw [(tableRequest_noTable h first count entries).2]
    rfl
  · rw [tableWriteRequest_of_range hid, if_neg fun hok => (rangeOk_iff id first count).1 hok hbad]
    rfl
  · rw [tableWriteRequest_of_range hid, if_pos ((rangeOk_iff id first count).2 (not_or.2 ⟨hne, not_lt.2 hle⟩))]
    refine ⟨fun hlength => ?_, fun raws hraws => ⟨fun i hi => ?_, fun t ht => ⟨fun hlimits hover => ?_, fun hfits => ?_⟩⟩⟩
    · rw [serve_tableWrite tag (writeTable_badLength hlength)]
    · rw [serve_tableWrite tag (writeTable_badEntry hraws hi), u8_code hid]
    · rw [serve_tableWrite tag (writeTable_overLimit hraws ht hlimits hover), u8_code hid]
    · rw [serve_tableWrite tag (writeTable_done hraws ht (hfits.imp_right (not_budgetBelow_iff _ _).2))]

/-- Settles O46, from the answers of the two requests, the index of the first check that fails, and each table's effect. -/
theorem tableRequestsAnswerInOrder : Obligations.TableRequestsAnswerInOrder := by
  unfold Obligations.TableRequestsAnswerInOrder
  refine ⟨fun tag table first count s hs => tableRead_answers hs tag table first count,
    fun tag table first count entries s hs => tableWrite_answers hs tag table first count entries,
    fun t u id first pre post raws raw => checkWrite_index t u id first pre post raws raw, fun s old first count => ?_,
    State.shedOwed_of_candidate⟩
  refine ⟨takeUp_bayMap s first count old, rfl, rfl, fun id hid => ?_, takeUp_patterns s first count old, takeUp_fans s first count old,
    takeUp_baySettings s first count old⟩
  simp only [List.mem_cons, List.not_mem_nil, or_false] at hid
  rcases hid with rfl | rfl | rfl | rfl | rfl <;> rfl

end Sys2Proof.Machine

/-! ### Request frames and their rows (R167, R196, R197) -/

namespace Sys2Proof.Machine

open Safety

/-! #### The words of a payload put together -/

theorem word16_recombined (x : BitVec 16) : x.extractLsb' 8 8 ++ x.extractLsb' 0 8 = x :=
  BitVec.extractLsb'_append_extractLsb'_eq_extractLsb' rfl |>.trans BitVec.extractLsb'_eq_self

theorem word32_recombined (x : BitVec 32) : x.extractLsb' 24 8 ++ x.extractLsb' 16 8 ++ x.extractLsb' 8 8 ++ x.extractLsb' 0 8 = x := by
  rw [BitVec.extractLsb'_append_extractLsb'_eq_extractLsb' (show 24 = 16 + 8 from rfl),
    BitVec.extractLsb'_append_extractLsb'_eq_extractLsb' (show 16 = 8 + 8 from rfl),
    BitVec.extractLsb'_append_extractLsb'_eq_extractLsb' (show 8 = 0 + 8 from rfl)]
  exact BitVec.extractLsb'_eq_self

theorem append_toNat {n : Nat} (x : BitVec n) (b : Byte) : (x ++ b).toNat = 256 * x.toNat + b.toNat := by
  rw [BitVec.toNat_append, ← Nat.shiftLeft_add_eq_or_of_lt b.isLt, Nat.shiftLeft_eq]
  omega

theorem word32_toNat (a b c d : Byte) : (a ++ b ++ c ++ d).toNat = 16777216 * a.toNat + 65536 * b.toNat + 256 * c.toNat + d.toNat := by
  rw [append_toNat, append_toNat, append_toNat]
  ring

/-! #### The pairs of a report -/

theorem pairsOf_flatMap (pairs : List (Byte × Byte)) : pairsOf (pairs.flatMap fun x => [x.1, x.2]) = some pairs := by
  induction pairs with
  | nil => rfl
  | cons x pairs ih =>
    change (pairsOf (pairs.flatMap fun x => [x.1, x.2])).map (x :: ·) = _
    rw [ih, Option.map_some]

theorem length_of_pairsOf (bytes : List Byte) {pairs : List (Byte × Byte)} (h : pairsOf bytes = some pairs) : bytes.length = 2 * pairs.length := by
  induction bytes using pairsOf.induct generalizing pairs with
  | case1 =>
    rw [← Option.some.inj h]
    rfl
  | case2 a b rest ih =>
    rw [pairsOf, Option.map_eq_some_iff] at h
    obtain ⟨ps, hps, rfl⟩ := h
    rw [List.length_cons, List.length_cons, List.length_cons, ih hps]
    ring
  | case3 bytes hnil hcons =>
    rw [pairsOf] at h
    · exact absurd h.symm (Option.some_ne_none _)
    · exact hnil
    · exact hcons

/-! #### The rows of the requests -/

/-- A row does what a request frame of the kind and the payload does, once the frame has been taken. -/
def RowCarries (u : State) (tag kind : Byte) (payload : List Byte) (i : Instr) : Prop :=
  exec i u = .next (u.hand tag (RequestKind.ofByte kind) (decodeRequest (RequestKind.ofByte kind) payload))

theorem decodeRequest_pairs {n : Byte} {ps : List Byte} {pairs : List (Byte × Byte)} (h : pairsOf ps = some pairs) :
    decodeRequest .temperatureReport (n :: ps) = if pairs.length = n.toNat then temperatureReportRequest pairs else .invalid .badValue := by
  delta decodeRequest
  dsimp only
  rw [h]

theorem decodeRequest_report {pairs : List (Byte × Byte)} (h : pairs.length ≤ 255) :
    decodeRequest .temperatureReport (u8 pairs.length :: pairs.flatMap fun x => [x.1, x.2]) = temperatureReportRequest pairs := by
  rw [decodeRequest_pairs (pairsOf_flatMap pairs), if_pos (u8_toNat_of_le h).symm]

theorem decodeRequest_undefined (payload : List Byte) : decodeRequest .undefined payload = .invalid .unknownKind := by
  rcases payload with _ | ⟨a, _ | ⟨b, _ | ⟨c, p⟩⟩⟩ <;> rfl

theorem RequestKind.ofByte_undefined {kind : Byte} (h : kind ∉ [(0x10 : Byte), 0x11, 0x20, 0x21, 0x30, 0x31, 0x32, 0x40, 0x41]) :
    RequestKind.ofByte kind = .undefined := by
  revert kind
  decide

theorem rows_carry (u : State) (tag a b c m lines level : Byte) (es : List Byte) {pairs : List (Byte × Byte)} (set32 : BitVec 32) (set16 : BitVec 16)
    (hpairs : pairs.length ≤ 255) :
    ∀ x ∈ [((0x10 : Byte), [a, b, c], Instr.tableRead tag a b c), (0x11, a :: b :: c :: es, .tableWrite tag a b c es),
         (0x20, [a, 1, m], .powerOn tag a), (0x20, [a, 2, m], .powerOff tag a), (0x20, [a, 3, m], .clearLockout tag a),
         (0x20, [a, 4, m], .identifyOn tag a), (0x20, [a, 5, m], .identifyOff tag a), (0x20, [a, 6, m], .markSet tag a m),
         (0x20, [a, 7, m], .markClear tag a m),
         (0x21, u8 pairs.length :: pairs.flatMap fun x => [x.1, x.2], .temperatureReport false tag pairs),
         (0x30, [0], .statusReadSummary tag), (0x30, [1, a, b], .statusReadBays tag a b), (0x30, [2], .statusReadSources tag),
         (0x30, [3], .statusReadFans tag), (0x30, [4], .statusReadZones tag), (0x30, [5], .statusReadLines tag),
         (0x31, [set16.extractLsb' 8 8, set16.extractLsb' 0 8], .attentionClear tag set16),
         (0x32, [set32.extractLsb' 24 8, set32.extractLsb' 16 8, set32.extractLsb' 8 8, set32.extractLsb' 0 8, lines, 1, level],
           .lineSetManual tag set32 lines level),
         (0x32, [set32.extractLsb' 24 8, set32.extractLsb' 16 8, set32.extractLsb' 8 8, set32.extractLsb' 0 8, lines, 0, level],
           .lineSetEngine tag set32 lines level),
         (0x40, [0], .restartImmediate tag), (0x40, [1], .restartQuiesced tag), (0x41, [], .configSave tag)],
      RowCarries u tag x.1 x.2.1 x.2.2 := by
  have hreport : RowCarries u tag 0x21 (u8 pairs.length :: pairs.flatMap fun x => [x.1, x.2]) (.temperatureReport false tag pairs) :=
    congrArg (fun r => Host.Outcome.next (u.hand tag .temperatureReport r)) (decodeRequest_report hpairs).symm
  have hattention : RowCarries u tag 0x31 [set16.extractLsb' 8 8, set16.extractLsb' 0 8] (.attentionClear tag set16) :=
    congrArg (fun w => Host.Outcome.next (u.hand tag .attentionClear (attentionClearRequest w))) (word16_recombined set16).symm
  have hlines (mode : Byte) : Host.Outcome.next (u.hand tag .lineSet (lineSetRequest set32 lines mode level)) =
      (.next (u.hand tag .lineSet (decodeRequest .lineSet
        [set32.extractLsb' 24 8, set32.extractLsb' 16 8, set32.extractLsb' 8 8, set32.extractLsb' 0 8, lines, mode, level])) :
        Host.Outcome State Fault Refusal) :=
    congrArg (fun w => Host.Outcome.next (u.hand tag .lineSet (lineSetRequest w lines mode level))) (word32_recombined set32).symm
  simp only [List.forall_mem_cons, List.not_mem_nil, false_implies, implies_true, and_true]
  exact ⟨rfl, rfl, rfl, rfl, rfl, rfl, rfl, rfl, rfl, hreport, rfl, rfl, rfl, rfl, rfl, rfl, hattention, hlines 1, hlines 0, rfl, rfl, rfl⟩

theorem unknownKind_carries (u : State) (tag : Byte) {kind : Byte} (payload : List Byte)
    (h : kind ∉ [(0x10 : Byte), 0x11, 0x20, 0x21, 0x30, 0x31, 0x32, 0x40, 0x41]) : RowCarries u tag kind payload (.unknownKind tag kind) := by
  rw [RowCarries, RequestKind.ofByte_undefined h, decodeRequest_undefined]
  rfl

/-! #### Faulty payloads (R24, R126, R167, R172 to R174, R177, R178, R197) -/

theorem actionOf_of_undefined {action : Byte} (h : action = 0 ∨ 8 ≤ action.toNat) (mark : Byte) : actionOf action mark = none := by
  have hother : action.toNat = 0 ∨ 8 ≤ action.toNat := h.imp_left fun h0 => by rw [h0]; rfl
  unfold actionOf
  split
  case h_8 => rfl
  all_goals omega

theorem actionOf_of_bad_mark {action mark : Byte} (h : action = 6 ∨ action = 7) (hm : mark = 0 ∨ 4 ≤ mark.toNat) : actionOf action mark = none := by
  rcases h with rfl | rfl
  · exact congrArg (Option.map BayAction.markSet) (markOf_of_undefined hm)
  · exact congrArg (Option.map BayAction.markClear) (markOf_of_undefined hm)

theorem bayAction_badValue {p : List Byte} (h : p.length ≠ 3 ∨ ∃ bay action mark, p = [bay, action, mark] ∧ bay.toNat < 24 ∧
    (action = 0 ∨ 8 ≤ action.toNat ∨ ((action = 6 ∨ action = 7) ∧ (mark = 0 ∨ 4 ≤ mark.toNat)))) :
    decodeRequest .bayAction p = .invalid .badValue := by
  rcases h with hlen | ⟨bay, action, mark, rfl, hbay, haction⟩
  · match p, hlen with
    | [], _ => rfl
    | [_], _ => rfl
    | [_, _], _ => rfl
    | [_, _, _], hlen => exact absurd rfl hlen
    | _ :: _ :: _ :: _ :: _, _ => rfl
  · have hnone : actionOf action mark = none := by
      rcases haction with h0 | h8 | ⟨h67, hmark⟩
      · exact actionOf_of_undefined (.inl h0) mark
      · exact actionOf_of_undefined (.inr h8) mark
      · exact actionOf_of_bad_mark h67 hmark
    change bayActionRequest bay action mark = _
    rw [bayActionRequest, Byte.index_of_lt hbay]
    simp only [hnone]

theorem bayAction_badRange {bay action mark : Byte} (h : 24 ≤ bay.toNat) : decodeRequest .bayAction [bay, action, mark] = .invalid .badRange := by
  change bayActionRequest bay action mark = _
  rw [bayActionRequest, Byte.index_of_le h]

theorem report_badValue {p : List Byte} (h : p = [] ∨ ∃ n rest, p = n :: rest ∧ (rest.length ≠ 2 * n.toNat ∨ n = 0 ∨ 64 < n.toNat)) :
    decodeRequest .temperatureReport p = .invalid .badValue := by
  rcases h with rfl | ⟨n, rest, rfl, hn⟩
  · rfl
  · cases hpairs : pairsOf rest with
    | none =>
      delta decodeRequest
      dsimp only
      rw [hpairs]
    | some pairs =>
      rw [decodeRequest_pairs hpairs]
      by_cases hcount : pairs.length = n.toNat
      · have hlen := length_of_pairsOf rest hpairs
        have hbad : pairs.length = 0 ∨ 64 < pairs.length := by
          rcases hn with hn | rfl | hn
          · exact absurd (hlen.trans (congrArg (2 * ·) hcount)) hn
          · exact .inl hcount
          · exact .inr (by omega)
        rw [if_pos hcount, temperatureReportRequest_of_count hbad]
      · exact if_neg hcount

theorem statusRead_undefined {selector : Byte} (h : 6 ≤ selector.toNat) : decodeRequest .statusRead [selector] = .invalid .badValue := by
  delta decodeRequest
  dsimp only
  split
  case h_6 => rfl
  all_goals omega

theorem statusRead_badValue {p : List Byte} (h : p = [] ∨ ∃ selector rest, p = selector :: rest ∧
    (6 ≤ selector.toNat ∨ (selector = 1 ∧ rest.length ≠ 2) ∨ (selector ≠ 1 ∧ rest ≠ []))) :
    decodeRequest .statusRead p = .invalid .badValue := by
  rcases h with rfl | ⟨selector, rest, rfl, hbad⟩
  · rfl
  · match rest, hbad with
    | [], hbad =>
      rcases hbad with h6 | ⟨hone, -⟩ | ⟨-, hrest⟩
      · exact statusRead_undefined h6
      · rw [hone]
        rfl
      · exact absurd rfl hrest
    | [_], _ => rfl
    | [first, count], hbad =>
      have hne : selector ≠ 1 := by
        rcases hbad with h6 | ⟨-, hlen⟩ | ⟨hne, -⟩
        · exact fun he => absurd (he ▸ h6) (by decide)
        · exact absurd rfl hlen
        · exact hne
      exact if_neg hne
    | _ :: _ :: _ :: _, _ => rfl

theorem statusRead_badRange {first count : Byte} (h : count = 0 ∨ 24 < first.toNat + count.toNat ∨ 9 < count.toNat) :
    decodeRequest .statusRead [1, first, count] = .invalid .badRange := by
  have hbad : count.toNat = 0 ∨ 24 < first.toNat + count.toNat ∨ 9 < count.toNat := h.imp_left fun h0 => by rw [h0]; rfl
  change statusReadBaysRequest first count = _
  exact if_neg (by omega)

theorem attentionClear_badValue {p : List Byte} (h : p.length ≠ 2 ∨ ∃ high low, p = [high, low] ∧ 128 ≤ high.toNat) :
    decodeRequest .attentionClear p = .invalid .badValue := by
  rcases h with hlen | ⟨high, low, rfl, hhigh⟩
  · match p, hlen with
    | [], _ => rfl
    | [_], _ => rfl
    | [_, _], hlen => exact absurd rfl hlen
    | _ :: _ :: _ :: _, _ => rfl
  · have hmsb : (high ++ low).getLsbD 15 = true := by
      rw [BitVec.getLsbD_append, if_neg (by decide)]
      exact (BitVec.msb_eq_decide high).trans (decide_eq_true hhigh)
    change attentionClearRequest (high ++ low) = _
    rw [attentionClearRequest, if_pos hmsb]

theorem lineSet_badValue {p : List Byte} (h : p.length ≠ 7 ∨ ∃ b2 b1 b0 lines mode level, p = [0, b2, b1, b0, lines, mode, level] ∧
    (lines = 0 ∨ 4 ≤ lines.toNat ∨ 2 ≤ mode.toNat ∨ 2 ≤ level.toNat)) :
    decodeRequest .lineSet p = .invalid .badValue := by
  rcases h with hlen | ⟨b2, b1, b0, lines, mode, level, rfl, hbad⟩
  · match p, hlen with
    | [], _ => rfl
    | [_], _ => rfl
    | [_, _], _ => rfl
    | [_, _, _], _ => rfl
    | [_, _, _, _], _ => rfl
    | [_, _, _, _, _], _ => rfl
    | [_, _, _, _, _, _], _ => rfl
    | [_, _, _, _, _, _, _], hlen => exact absurd rfl hlen
    | _ :: _ :: _ :: _ :: _ :: _ :: _ :: _ :: _, _ => rfl
  · have hset : ((0 : Byte) ++ b2 ++ b1 ++ b0).toNat < 16777216 := by
      have := b2.isLt
      have := b1.isLt
      have := b0.isLt
      rw [word32_toNat, show (0 : Byte).toNat = 0 from rfl]
      omega
    exact lineSetRequest_of_undefined hset (hbad.imp_left fun h0 => by rw [h0]; rfl)

theorem lineSet_badRange {b3 : Byte} (h : b3 ≠ 0) (b2 b1 b0 lines mode level : Byte) :
    decodeRequest .lineSet [b3, b2, b1, b0, lines, mode, level] = .invalid .badRange := by
  have hpos : b3.toNat ≠ 0 := fun h0 => h (BitVec.eq_of_toNat_eq h0)
  have hset : 16777216 ≤ (b3 ++ b2 ++ b1 ++ b0).toNat := by
    rw [word32_toNat]
    omega
  exact lineSetRequest_of_no_bay hset lines mode level

theorem restart_badValue {p : List Byte} (h : p.length ≠ 1 ∨ ∃ form, p = [form] ∧ 2 ≤ form.toNat) :
    decodeRequest .restart p = .invalid .badValue := by
  rcases h with hlen | ⟨form, rfl, hform⟩
  · match p, hlen with
    | [], _ => rfl
    | [_], hlen => exact absurd rfl hlen
    | _ :: _ :: _, _ => rfl
  · have hne (b : Byte) (hb : b.toNat < 2) : form ≠ b := fun he => absurd (he ▸ hform) (not_le_of_gt hb)
    change (if form = 0 then Request.restart .immediate else if form = 1 then .restart .quiesced else .invalid .badValue) = _
    rw [if_neg (hne 0 (by decide)), if_neg (hne 1 (by decide))]

theorem tableRead_badValue {p : List Byte} (h : p.length ≠ 3) : decodeRequest .tableRead p = .invalid .badValue := by
  match p, h with
  | [], _ => rfl
  | [_], _ => rfl
  | [_, _], _ => rfl
  | [_, _, _], h => exact absurd rfl h
  | _ :: _ :: _ :: _ :: _, _ => rfl

theorem tableWrite_badValue {p : List Byte} (h : p.length < 3) : decodeRequest .tableWrite p = .invalid .badValue := by
  match p, h with
  | [], _ => rfl
  | [_], _ => rfl
  | [_, _], _ => rfl
  | _ :: _ :: _ :: p, h =>
    simp only [List.length_cons] at h
    omega

theorem configSave_badValue {p : List Byte} (h : p ≠ []) : decodeRequest .configSave p = .invalid .badValue := by
  cases p with
  | nil => exact absurd rfl h
  | cons a p => rcases p with _ | ⟨b, _ | ⟨c, p⟩⟩ <;> rfl

theorem decodeRequest_badPayload {kind : Byte} {p : List Byte} (h : BadPayload kind p) :
    decodeRequest (RequestKind.ofByte kind) p = .invalid .badValue := by
  rcases h with ⟨rfl, h⟩ | ⟨rfl, h⟩ | ⟨rfl, h⟩ | ⟨rfl, h⟩ | ⟨rfl, h⟩ | ⟨rfl, h⟩ | ⟨rfl, h⟩ | ⟨rfl, h⟩ | ⟨rfl, h⟩
  · exact tableRead_badValue h
  · exact tableWrite_badValue h
  · exact bayAction_badValue h
  · exact report_badValue h
  · exact statusRead_badValue h
  · exact attentionClear_badValue h
  · exact lineSet_badValue h
  · exact restart_badValue h
  · exact configSave_badValue h

theorem decodeRequest_badRangePayload {kind : Byte} {p : List Byte} (h : BadRangePayload kind p) :
    decodeRequest (RequestKind.ofByte kind) p = .invalid .badRange := by
  rcases h with ⟨rfl, bay, action, mark, rfl, h⟩ | ⟨rfl, first, count, rfl, h⟩ | ⟨rfl, b3, b2, b1, b0, lines, mode, level, rfl, h⟩
  · exact bayAction_badRange h
  · exact statusRead_badRange h
  · exact lineSet_badRange h b2 b1 b0 lines mode level

/-- Settles O55, through the routing of O41: the frame hands its decoded payload to the MRU, and each row hands the same. -/
theorem requestFramesCarryTheRequests : Obligations.RequestFramesCarryTheRequests := by
  unfold Obligations.RequestFramesCarryTheRequests
  intro tag a b c m lines level es pairs set32 set16 s u t p kind payload i hl hpos hu report forwarded
  have howned (kind : Byte) (payload : List Byte) : exec (.upstreamRequest (u8 p.val) tag kind payload) s =
      .next (u.hand tag (RequestKind.ofByte kind) (decodeRequest (RequestKind.ofByte kind) payload)).resumeDown :=
    (requestsGoByTarget (u8 p.val) tag kind payload s u p hl hpos hu).1 (u8_fin (by decide) p)
  have htoAll (payload : List Byte) : exec (.upstreamRequest 0xFF tag 0x21 payload) s =
      .next (forwarded payload (u.handAll (decodeRequest .temperatureReport payload))).resumeDown :=
    (requestsGoByTarget 0xFF tag 0x21 payload s u p hl hpos hu).2.2.2.2.1 rfl rfl
  have hcarried (h : RowCarries u tag kind payload i) (hexec : exec i u = .next t) :
      exec (.upstreamRequest (u8 p.val) tag kind payload) s = .next t.resumeDown := by
    rw [howned, ← Host.Outcome.next.inj (hexec.symm.trans h)]
  have hanswered (hs : Serves u) {status : Status} (h : decodeRequest (RequestKind.ofByte kind) payload = .invalid status) :
      exec (.upstreamRequest (u8 p.val) tag kind payload) s = .next (u.reply tag status []).resumeDown := by
    rw [howned, h, hand_eq_serve hs]
    rfl
  refine ⟨fun hexec hpairs hrow => ?rows, fun hexec hpairs => ?toAll, fun hbad => ?faultyToAll, fun hs =>
    ⟨fun hbad => hanswered hs (decodeRequest_badPayload hbad), fun hbad => hanswered hs (decodeRequest_badRangePayload hbad)⟩⟩
  case rows =>
    rcases hrow with hmem | ⟨hkind, rfl⟩
    · exact hcarried (rows_carry u tag a b c m lines level es set32 set16 hpairs _ hmem) hexec
    · exact hcarried (unknownKind_carries u tag payload hkind) hexec
  case toAll =>
    have ht : u.handAll (temperatureReportRequest pairs) = t := Host.Outcome.next.inj hexec
    rw [htoAll, decodeRequest_report hpairs, ht]
  case faultyToAll =>
    have hdecode : decodeRequest .temperatureReport payload = .invalid .badValue := decodeRequest_badPayload hbad
    rw [htoAll, hdecode, State.handAll_invalid]

end Sys2Proof.Machine
